-- ==== Sys2Proof/Word.lean ====
section
/-! DEFINITION. The one datum of the engine: an 8-bit byte (R10, R11, R42). -/

namespace Sys2Proof

/-- Every datum on the link, in the buffers and in the checksum is an 8-bit byte (R10). -/
abbrev Byte := BitVec 8

end Sys2Proof
end

