-- ==== Sys2Proof/Config.lean ====
section
/-! DEFINITION. The implementation parameters of 00_scope.md (R7 to R9) and the free values the spec leaves open (I3). -/

namespace Sys2Proof

/-- The parameters of R7. Times are counts of one common unit of time (entry 2).
A model takes each parameter as an argument: it travels in the state and no step changes it (entry 1). -/
structure Config where
  /-- The one valid mode byte of a request. -/
  sentinel : Byte
  /-- Module id of the EAM module. -/
  eamId : Byte
  /-- Module id of the GPS module. -/
  gpsId : Byte
  /-- The byte that ends an inbound frame. -/
  terminator : Byte
  /-- Wait window of AWAIT and RECV_FRAME. -/
  tTimeout : Nat
  /-- Settling delay before the first transmitted byte. -/
  tPostRecv : Nat
  /-- Delay after every transmitted byte. -/
  tInterbyte : Nat
  /-- Settling delay before RECV_FRAME polls. -/
  tRxSettle : Nat
  /-- Clock period. -/
  tClk : Nat
  /-- Capacity of `txbuf` in bytes. -/
  txCapacity : Nat
  /-- Capacity of `rxbuf` in bytes. -/
  rxCapacity : Nat
  /-- Fixed response length of the EAM module. -/
  lenEam : Nat
  /-- Fixed response length of the GPS module. -/
  lenGps : Nat
deriving DecidableEq, Repr

/-- The number of clock cycles that cover the time `t`: `ceil(t / T_CLK)` (R8). -/
def Config.cyclesOf (c : Config) (t : Nat) : Nat := (t + c.tClk - 1) / c.tClk

/-- `C_TIMEOUT` (R8). -/
def Config.cTimeout (c : Config) : Nat := c.cyclesOf c.tTimeout

/-- `C_POST_RECV` (R8). -/
def Config.cPostRecv (c : Config) : Nat := c.cyclesOf c.tPostRecv

/-- `C_INTERBYTE` (R8). -/
def Config.cInterbyte (c : Config) : Nat := c.cyclesOf c.tInterbyte

/-- `C_RX_SETTLE` (R8). -/
def Config.cRxSettle (c : Config) : Nat := c.cyclesOf c.tRxSettle

/-- The number of bits of `n` written in binary (R8); 0 is written with one bit. -/
def bitsOf (n : Nat) : Nat := Nat.log2 n + 1

/-- `LEN_W`, the width of every length and index (R8). -/
def Config.lenW (c : Config) : Nat := bitsOf (max c.txCapacity c.rxCapacity)

/-- The largest count `timer` is ever loaded with (R8, R156). -/
def Config.maxDelay (c : Config) : Nat :=
  max (max c.cTimeout c.cPostRecv) (max c.cInterbyte c.cRxSettle)

/-- `TIMER_W`, the width of `timer` (R8). -/
def Config.timerW (c : Config) : Nat := bitsOf c.maxDelay

/-- The constraints the parameters must meet (R9, D8; `T_CLK` is a period, so not 0). -/
def Config.ok (c : Config) : Bool :=
  c.eamId != c.gpsId && c.eamId != 0xFF && c.gpsId != 0xFF
    && decide (1 ≤ c.lenEam) && decide (c.lenEam ≤ c.txCapacity)
    && decide (1 ≤ c.lenGps) && decide (c.lenGps ≤ c.txCapacity)
    && decide (1 ≤ c.txCapacity) && decide (2 ≤ c.rxCapacity) && decide (0 < c.tClk)

/-- The parameter set `State.reset` carries (entry 1, DESIGN CHOICE, unsafe): `SENTINEL = 0xF8`, `EAM_ID = 0x01` and
`T_TIMEOUT = 1000 ms` as R7 gives them; for the OPEN parameters the example set EX of 95_test_vectors.md section 0,
in milliseconds with `T_CLK = 100 ms`. No statement rests on it. -/
def Config.reference : Config where
  sentinel := 0xF8
  eamId := 0x01
  gpsId := 0x02
  terminator := 0x7D
  tTimeout := 1000
  tPostRecv := 200
  tInterbyte := 100
  tRxSettle := 100
  tClk := 100
  txCapacity := 8
  rxCapacity := 6
  lenEam := 5
  lenGps := 4

/-- FREE VALUE (R29, R110, I3; entry 5): what `txbuf` holds at an index no rule has written since reset. -/
opaque Config.txUnwritten : Nat → Byte

/-- FREE VALUE (R30, I3; entry 5): what `rxbuf` holds at an index no rule has written since reset. -/
opaque Config.rxUnwritten : Nat → Byte

end Sys2Proof
end

