-- ==== Sys2Proof/Machine/State.lean ====
section
/-! DEFINITION. The engine's state as plain data: every register, flag and buffer of 10_state.md (R16 to R30), the state of the
environment the engine observes (R32, R33, R37), and the model's own operand and observation fields; the reset state. -/

namespace Sys2Proof.Machine

/-- The FSM states of R18, in the order of their codes. Codes 14 and 15 have no constructor (R18, entry 21). -/
inductive St where
  /-- 0: loop not running; accepts `start` and `recv_cmd`. -/
  | stopped
  /-- 1: top of a loop iteration. -/
  | top
  /-- 2: AWAIT, waiting for the mode byte. -/
  | reqWait
  /-- 3: AWAIT, waiting for the module byte. -/
  | reqId
  /-- 4: waiting for the ResponseBuilder. -/
  | build
  /-- 5: TRANSMIT, post-receive settling delay. -/
  | txSettle
  /-- 6: TRANSMIT, write byte `idx`. -/
  | txByte
  /-- 7: TRANSMIT, inter-byte delay. -/
  | txGap
  /-- 8: TRANSMIT, drain the echo. -/
  | txDrain
  /-- 9: RECV_FRAME, settling delay. -/
  | rfSettle
  /-- 10: RECV_FRAME, poll with timeout. -/
  | rfPoll
  /-- 11: RECV_FRAME, accumulate until the terminator. -/
  | rfScan
  /-- 12: RECV_FRAME, read the trailing byte. -/
  | rfTrail
  /-- 13: fatal stop, left only by reset. -/
  | fault
deriving DecidableEq, Repr

/-- The 4-bit code of an FSM state (R17, R18). -/
def St.code : St → BitVec 4
  | .stopped => 0
  | .top => 1
  | .reqWait => 2
  | .reqId => 3
  | .build => 4
  | .txSettle => 5
  | .txByte => 6
  | .txGap => 7
  | .txDrain => 8
  | .rfSettle => 9
  | .rfPoll => 10
  | .rfScan => 11
  | .rfTrail => 12
  | .fault => 13

/-- The 1-bit register `sync` (R21). -/
inductive SyncState where
  /-- 0. -/
  | connected
  /-- 1. -/
  | syncing
deriving DecidableEq, Repr

/-- The bit `sync_state` shows (R21, R22). -/
def SyncState.bit : SyncState → BitVec 1
  | .connected => 0
  | .syncing => 1

/-- `fault_code` (R25, R150). -/
inductive FaultCode where
  /-- 0: no fault since reset. -/
  | none
  /-- 1: a byte to store with `rxbuf` full. -/
  | rxOverrun
  /-- 2: `bld_len > TX_CAPACITY`. -/
  | txLength
  /-- 3: `bld_addr >= TX_CAPACITY`. -/
  | buildAddr
deriving DecidableEq, Repr

/-- The 2-bit code of a fault (R150). -/
def FaultCode.code : FaultCode → BitVec 2
  | .none => 0
  | .rxOverrun => 1
  | .txLength => 2
  | .buildAddr => 3

/-- `last_result` (R27). -/
inductive LastResult where
  /-- 0: none since reset. -/
  | none
  /-- 1: a ModuleId was received. -/
  | moduleId
  /-- 2: Timeout. -/
  | timeout
  /-- 3: Invalid. -/
  | invalid
deriving DecidableEq, Repr

/-- The 2-bit code of `last_result` (R27). -/
def LastResult.code : LastResult → BitVec 2
  | .none => 0
  | .moduleId => 1
  | .timeout => 2
  | .invalid => 3

/-- `rf_status` (R28). -/
inductive RfStatus where
  /-- 0: none since reset. -/
  | none
  /-- 1: a frame was received. -/
  | ok
  /-- 2: Timeout. -/
  | timeout
deriving DecidableEq, Repr

/-- The 2-bit code of `rf_status` (R28). -/
def RfStatus.code : RfStatus → BitVec 2
  | .none => 0
  | .ok => 1
  | .timeout => 2

/-- An indexed byte space (R37): the bytes written since reset, by index, strictly rising. An index that is not listed
has not been written (entry 5). -/
abbrev Memory := List Host.Cell

/-- Strictly rising indices: the one canonical form of a `Memory`. -/
def Memory.wf : Memory → Bool
  | [] => true
  | [_] => true
  | a :: b :: rest => decide (a.1 < b.1) && Memory.wf (b :: rest)

/-- The input ports of R22 in one clock cycle. The line's side of the RX queue is given as the bytes it appends (R32, R160):
they are in the queue from this cycle on. Lengths and indices are taken modulo `2^LEN_W` (entry 4). -/
structure CycleIn where
  /-- `rst` -/
  rst : Bool := false
  /-- Bytes the line appends to the RX queue. -/
  rx : List Byte := []
  /-- `tx_ready` -/
  txReady : Bool := false
  /-- `start` -/
  start : Bool := false
  /-- `shutdown` -/
  shutdown : Bool := false
  /-- `transport_ok` -/
  transportOk : Bool := false
  /-- `recv_cmd` -/
  recvCmd : Bool := false
  /-- `bld_we` -/
  bldWe : Bool := false
  /-- `bld_addr` -/
  bldAddr : Nat := 0
  /-- `bld_wdata` -/
  bldWdata : Byte := 0
  /-- `bld_done` -/
  bldDone : Bool := false
  /-- `bld_len` -/
  bldLen : Nat := 0
  /-- `rf_raddr` -/
  rfRaddr : Nat := 0
deriving DecidableEq, Repr

/-- The output wires of R22 that show no register, in one clock cycle. -/
structure CycleOut where
  /-- `rx_pop` -/
  rxPop : Bool := false
  /-- `tx_write` -/
  txWrite : Bool := false
  /-- `tx_data` -/
  txData : Byte := 0
  /-- `sync_event` -/
  syncEvent : Bool := false
  /-- `rf_done` -/
  rfDone : Bool := false
  /-- `rf_rdata` -/
  rfRdata : Byte := 0
deriving DecidableEq, Repr

/-- The event pulses of R144, as the environment samples them. -/
inductive Event where
  /-- `sync_event` (R24). -/
  | sync
  /-- `rf_done` (R28). -/
  | rfDone
deriving DecidableEq, Repr

/-- The operands of the operations, which the operation word does not carry (R63). The model's own (entry 10). -/
structure OpArgs where
  /-- SCAN's `b`. -/
  byte : Byte := 0
  /-- SCAN's `i`. -/
  index : Nat := 0
  /-- FINALIZE's `B`. -/
  buffer : List Byte := []
  /-- TRANSMIT's `n`. -/
  length : Nat := 0
deriving DecidableEq, Repr

/-- What a pure operation returns (R72, R73). The model's own (entry 10). -/
inductive OpResult where
  /-- None yet. -/
  | none
  /-- SCAN's bit. -/
  | scan (isTerminator : Bool)
  /-- FINALIZE's byte. -/
  | finalize (checksum : Byte)
deriving DecidableEq, Repr

/-- The whole state (INVENTORY.md, "State"). -/
structure State where
  /-- The parameters of R7, never changed. The model's own field. -/
  cfg : Config
  /-- The FSM state register, the engine's program counter (R17). -/
  st : St
  /-- Cycles left in the current delay or wait, TIMER_W bits (R20, R156). -/
  timer : Nat
  /-- Index of the next byte to transmit, LEN_W bits (R20). -/
  idx : Nat
  /-- Length of the frame being transmitted, LEN_W bits (R20). -/
  len : Nat
  /-- Running checksum (R20). -/
  csum : Byte
  /-- ModuleId of the current request (R20); shown on `bld_module` (R35). -/
  modId : Byte
  /-- Bytes left to drain, LEN_W bits (R20). -/
  drainRem : Nat
  /-- Bytes accumulated in `rxbuf`, LEN_W bits (R20). -/
  rxCount : Nat
  /-- SyncState (R21). -/
  sync : SyncState
  /-- A fatal internal error has happened (R25). -/
  fault : Bool
  /-- Which one (R25). -/
  faultCode : FaultCode
  /-- The last START found the transport not open (R26). -/
  startFailed : Bool
  /-- Outcome of the last AWAIT (R27). -/
  lastResult : LastResult
  /-- ModuleId of the last AWAIT that returned one (R27). -/
  lastModule : Byte
  /-- Outcome of the last RECV_FRAME (R28). -/
  rfStatus : RfStatus
  /-- Bytes of the last frame received, LEN_W bits (R28). -/
  rfLen : Nat
  /-- The response frame buffer (R29). -/
  txbuf : Memory
  /-- The reception accumulator (R30). -/
  rxbuf : Memory
  /-- The wires of the last clock cycle (R22). -/
  outs : CycleOut
  /-- ENVIRONMENT: the RX queue, head first (R32). -/
  rxQueue : List Byte
  /-- ENVIRONMENT: every byte written to the transport, oldest first (R37, R41). -/
  txStream : List Byte
  /-- ENVIRONMENT: the line puts each written byte in the RX queue before the next cycle (R33, R70). -/
  echo : Bool
  /-- ENVIRONMENT: the input ports in the coming cycles. -/
  inputs : List CycleIn
  /-- ENVIRONMENT: the input ports after the listed cycles. -/
  held : CycleIn
  /-- ENVIRONMENT: the event pulses seen, oldest first (R144). -/
  events : List Event
  /-- MODEL: an operation word presented for execution (R60, D23). -/
  opWord : Option Byte
  /-- MODEL: operands of the operations (R63). -/
  args : OpArgs
  /-- MODEL: what the last SCAN or FINALIZE returned. -/
  result : OpResult
deriving DecidableEq, Repr

/-- Why the MODEL stops. An engine fault is no stop: it is the state `St.fault` (R151). -/
inductive Fault where
  /-- TRANSMIT reaches for an index of `txbuf` that does not exist (R37). Raised by the buffer accesses of TX_BYTE and
  BUILD in states that no run reaches (R45). Safe. -/
  | noTxIndex (index : Nat)
  /-- RECV_FRAME reaches for an index of `rxbuf` that does not exist (R37). Raised by the stores of RF_SCAN and RF_TRAIL
  in states that no run reaches (R45). Safe. -/
  | noRxIndex (index : Nat)
deriving DecidableEq, Repr

/-- What the MODEL gives no meaning. -/
inductive Refusal where
  /-- Raised by `exec` for an instruction without a meaning; no arm raises it. Safe. -/
  | notModelled (mnemonic : String)
  /-- Raised by `step` for an operation word that spells no operation (R66). Safe. -/
  | reservedOpWord (w : Byte)
  /-- Raised by `step` for a parameter set that breaks R9: it is not this hardware (I18). Safe. -/
  | badParameters
deriving DecidableEq, Repr

/-- The machine with parameters `c` right after reset (R168), in an environment that drives nothing (entry 6). -/
def State.resetWith (c : Config) : State where
  cfg := c
  st := .stopped
  timer := 0
  idx := 0
  len := 0
  csum := 0x00
  modId := 0x00
  drainRem := 0
  rxCount := 0
  sync := .connected
  fault := false
  faultCode := .none
  startFailed := false
  lastResult := .none
  lastModule := 0x00
  rfStatus := .none
  rfLen := 0
  txbuf := []
  rxbuf := []
  outs := {}
  rxQueue := []
  txStream := []
  echo := false
  inputs := []
  held := {}
  events := []
  opWord := none
  args := {}
  result := .none

/-- The machine right after reset (R168, R169), with the reference parameters (entry 1). -/
def State.reset : State := State.resetWith Config.reference

end Sys2Proof.Machine
end

