-- ==== Sys2Proof/Machine/Ops.lean ====
section
/-! DEFINITION. The named operations over buffers, streams and output wires (R12, R37 to R45); raising a fault (R149 to R153)
and reset, the only way back (R166 to R170). -/

namespace Sys2Proof.Machine

/-! ## Buffers -/

/-- The byte written at index `a` since reset, if any. -/
def Memory.read? : Memory → Nat → Option Byte
  | [], _ => none
  | (k, b) :: rest, a => if k = a then some b else Memory.read? rest a

/-- Write `b` at index `a`, keeping the canonical form. -/
def Memory.write : Memory → Nat → Byte → Memory
  | [], a, b => [(a, b)]
  | (k, x) :: rest, a, b =>
    if a < k then (a, b) :: (k, x) :: rest
    else if a = k then (a, b) :: rest
    else (k, x) :: Memory.write rest a b

/-- What `txbuf` holds at index `i`: the byte written there, or the free value (R29, R110). -/
def State.txAt (s : State) (i : Nat) : Byte := (s.txbuf.read? i).getD (Config.txUnwritten i)

/-- What `rxbuf` holds at index `i`: the byte written there, or the free value (R30). -/
def State.rxAt (s : State) (i : Nat) : Byte := (s.rxbuf.read? i).getD (Config.rxUnwritten i)

/-- `BufRead(txbuf, i)` (R12, R37). -/
def bufReadTx (i : Nat) (s : State) : Except Fault Byte :=
  if i < s.cfg.txCapacity then .ok (s.txAt i) else .error (.noTxIndex i)

/-- `BufWrite(txbuf, i, b)` (R12, R37). -/
def bufWriteTx (i : Nat) (b : Byte) (s : State) : Except Fault State :=
  if i < s.cfg.txCapacity then .ok { s with txbuf := s.txbuf.write i b } else .error (.noTxIndex i)

/-- `BufWrite(rxbuf, i, b)` (R12, R37). -/
def bufWriteRx (i : Nat) (b : Byte) (s : State) : Except Fault State :=
  if i < s.cfg.rxCapacity then .ok { s with rxbuf := s.rxbuf.write i b } else .error (.noRxIndex i)

/-- `rf_rdata`: `BufRead(rxbuf, rf_raddr)` below `RX_CAPACITY`, 0 at and above it (R30, R45). -/
def State.rfRdata (s : State) (raddr : Nat) : Byte :=
  if raddr < s.cfg.rxCapacity then s.rxAt raddr else 0

/-- `txbuf[0 .. n-1]` as a list. -/
def State.txFrame (s : State) (n : Nat) : List Byte := (List.range n).map s.txAt

/-- `rxbuf[0 .. n-1]` as a list. -/
def State.rxFrame (s : State) (n : Nat) : List Byte := (List.range n).map s.rxAt

/-! ## Streams -/

/-- `RxPop()`: the head byte leaves the RX queue at the end of the cycle (R12, R40). -/
def popRx (s : State) : State :=
  { s with rxQueue := s.rxQueue.tail, outs := { s.outs with rxPop := true } }

/-- `TxWrite(v)`: `v` is appended to the TX stream (R41), and to the RX queue where the line echoes (R33). -/
def txWrite (v : Byte) (s : State) : State :=
  { s with
    txStream := s.txStream ++ [v]
    rxQueue := if s.echo then s.rxQueue ++ [v] else s.rxQueue
    outs := { s.outs with txWrite := true, txData := v } }

/-! ## Pulses -/

/-- `Pulse(sync_event)` (R24). -/
def pulseSync (s : State) : State :=
  { s with events := s.events ++ [.sync], outs := { s.outs with syncEvent := true } }

/-- `Pulse(rf_done)` (R28). -/
def pulseRfDone (s : State) : State :=
  { s with events := s.events ++ [.rfDone], outs := { s.outs with rfDone := true } }

/-! ## Faults and reset -/

/-- `raise Fault(code)`: the cycle's only effects (R12, R149, R151). -/
def raiseFault (code : FaultCode) (s : State) : State :=
  { s with fault := true, faultCode := code, st := .fault }

/-- The reset rule (R170): every register, neither buffer, nothing of the environment. The only way out of `FAULT`
(R152, R166). -/
def applyReset (s : State) : State :=
  { s with
    st := .stopped
    sync := .connected
    timer := 0
    idx := 0
    len := 0
    drainRem := 0
    rxCount := 0
    csum := 0x00
    modId := 0x00
    fault := false
    faultCode := .none
    startFailed := false
    lastResult := .none
    lastModule := 0x00
    rfStatus := .none
    rfLen := 0 }

/-! ## The start of a clock cycle -/

/-- A length or index port is an unsigned `LEN_W`-bit number (R22, R63; entry 4). -/
def lenPort (c : Config) (v : Nat) : Nat := v % 2 ^ c.lenW

/-- The values on the input ports in this cycle. -/
def State.thisInput (s : State) : CycleIn := s.inputs.headD s.held

/-- A cycle begins: its inputs are taken, the line's bytes are in the RX queue, every pulse is 0 unless a rule asserts it
(R22), and `rf_rdata` shows `rxbuf` as of the start of the cycle (R44). -/
def beginCycle (i : CycleIn) (s : State) : State :=
  { s with
    inputs := s.inputs.tail
    rxQueue := s.rxQueue ++ i.rx
    outs := { rfRdata := s.rfRdata (lenPort s.cfg i.rfRaddr) } }

/-- Answer of a meaning: the next state, or the model's fault. -/
def answer : Except Fault State → Host.Outcome State Fault Refusal
  | .ok s => .next s
  | .error e => .fault e

end Sys2Proof.Machine
end

