-- ==== Sys2Proof/Machine/Operands.lean ====
section
/-! DEFINITION. Operand forms: the lengths and indices on the ports (R22, R63), and the operands of the operations (R63). -/

namespace Sys2Proof.Machine

/-- `bld_addr` in this cycle. -/
def bldAddrOf (i : CycleIn) (s : State) : Nat := lenPort s.cfg i.bldAddr

/-- `bld_len` in this cycle (R63: an unsigned `LEN_W`-bit number). -/
def bldLenOf (i : CycleIn) (s : State) : Nat := lenPort s.cfg i.bldLen

/-- SCAN's operand `b` (R63, R72). -/
def scanByte (s : State) : Byte := s.args.byte

/-- SCAN's operand `i`, `LEN_W` bits (R63, R72). -/
def scanIndex (s : State) : Nat := lenPort s.cfg s.args.index

/-- FINALIZE's operand `B` (R63, R73). -/
def finalizeBuffer (s : State) : List Byte := s.args.buffer

/-- TRANSMIT's operand `n`, `LEN_W` bits (R63, R99). -/
def transmitLength (s : State) : Nat := lenPort s.cfg s.args.length

end Sys2Proof.Machine
end

