-- ==== Sys2Proof/Machine/Codec.lean ====
section
/-! DEFINITION. FrameCodec (40_codec.md): terminator detection and checksum, and the meanings of SCAN and FINALIZE. No I/O, no
clock. -/

namespace Sys2Proof.Machine

/-- `SCAN b, i`: `b == TERMINATOR`; the index does not take part (R72, R77). -/
def scan (c : Config) (b : Byte) (_i : Nat) : Bool := b == c.terminator

/-- The running sum, a byte that wraps (R74, R75). -/
def byteSum (bytes : List Byte) : Byte := bytes.foldl (fun acc b => acc + b) 0

/-- `FINALIZE B`: the list and the result (R73). An empty list has no last slot: nothing is written and the result is 0. -/
def finalizeChecksum (buffer : List Byte) : List Byte × Byte :=
  match buffer with
  | [] => ([], 0x00)
  | b :: rest =>
    let payload := (b :: rest).dropLast
    (payload ++ [byteSum payload], byteSum payload)

/-- The test a receiver applies: the last byte is the sum of the bytes before it (R78). The engine never applies it to
inbound data (R59). -/
def checksFrame (frame : List Byte) : Bool := frame.getLast? == some (byteSum frame.dropLast)

/-- The response frame with a given payload (R58). -/
def respFrame (payload : List Byte) : List Byte := payload ++ [byteSum payload]

/-- Split an inbound stream after its first terminator and the one byte after it (R59, R77, R96): the frame of `k + 2`
bytes and the bytes left, or `none` while no such frame is whole. -/
def splitFrame (c : Config) : List Byte → Option (List Byte × List Byte)
  | [] => none
  | b :: rest =>
    if scan c b 0 then
      match rest with
      | [] => none
      | x :: rest' => some ([b, x], rest')
    else (splitFrame c rest).map fun p => (b :: p.1, p.2)

/-- SCAN (R72): a pure predicate; nothing is written but the model's result. -/
def execScan (s : State) : Host.Outcome State Fault Refusal :=
  .next { s with result := .scan (scan s.cfg (scanByte s) (scanIndex s)) }

/-- FINALIZE (R73): the last slot of the operand list is written; the sum is returned. -/
def execFinalize (s : State) : Host.Outcome State Fault Refusal :=
  .next { s with
    args := { s.args with buffer := (finalizeChecksum (finalizeBuffer s)).1 }
    result := .finalize (finalizeChecksum (finalizeBuffer s)).2 }

end Sys2Proof.Machine
end

