-- ==== Sys2Proof/Machine/Flags.lean ====
section
/-! DEFINITION. Status flags and their computation: `running`, `bld_req` and the other level outputs (R22, R23, R35), the
SyncState transitions with their event (R21, R24, R116, R124, R125). -/

namespace Sys2Proof.Machine

/-- The RECV_FRAME states (R18). -/
def isRecv : St → Bool
  | .rfSettle | .rfPoll | .rfScan | .rfTrail => true
  | .stopped | .top | .reqWait | .reqId | .build | .txSettle | .txByte | .txGap | .txDrain | .fault => false

/-- The AWAIT states (R18). -/
def isAwait : St → Bool
  | .reqWait | .reqId => true
  | .stopped | .top | .build | .txSettle | .txByte | .txGap | .txDrain | .rfSettle | .rfPoll | .rfScan | .rfTrail
  | .fault => false

/-- The TRANSMIT states (R18). -/
def isTransmit : St → Bool
  | .txSettle | .txByte | .txGap | .txDrain => true
  | .stopped | .top | .reqWait | .reqId | .build | .rfSettle | .rfPoll | .rfScan | .rfTrail | .fault => false

/-- The states in which a decoded request is being answered: BUILD and TRANSMIT (R115). -/
def isServing (st : St) : Bool := st == .build || isTransmit st

/-- The states inside an iteration, between one `TOP` and the next (R113, R115). -/
def inIteration (st : St) : Bool := isAwait st || isServing st

/-- `running`: while the protocol loop runs (R23). -/
def State.running (s : State) : Bool := s.st != .stopped && s.st != .fault && !isRecv s.st

/-- `bld_req`: exactly while `st = BUILD` (R35). -/
def State.bldReq (s : State) : Bool := s.st == .build

/-- `bld_module` shows `mod_id` at all times (R35). -/
def State.bldModule (s : State) : Byte := s.modId

/-- `sync_state` shows `sync` (R22). -/
def State.syncState (s : State) : BitVec 1 := s.sync.bit

/-- The two outcomes of AWAIT that resync the loop (R81, R124). -/
inductive Resync where
  /-- No byte within the window. -/
  | timeout
  /-- The first byte is not `SENTINEL`. -/
  | invalid
deriving DecidableEq, Repr

/-- What `last_result` records for them: 2 or 3 (R124). -/
def resyncResult : Resync → LastResult
  | .timeout => .timeout
  | .invalid => .invalid

/-- `if sync = 0: sync <- 1; Pulse(sync_event)` (R124). -/
def loseSync (s : State) : State :=
  match s.sync with
  | .connected => pulseSync { s with sync := .syncing }
  | .syncing => s

/-- `if sync = 1: sync <- 0; Pulse(sync_event)` (R125). -/
def regainSync (s : State) : State :=
  match s.sync with
  | .connected => s
  | .syncing => pulseSync { s with sync := .connected }

/-- Resync (R124): record the outcome, lose synchronisation, back to `TOP`; no build, no transmission. -/
def resync (o : Resync) (s : State) : State :=
  { loseSync { s with lastResult := resyncResult o } with st := .top }

/-- Reconnect (R125): record the ModuleId, regain synchronisation. `mod_id` is written in the same cycle (R84). -/
def reconnect (m : Byte) (s : State) : State :=
  regainSync { s with modId := m, lastResult := .moduleId, lastModule := m }

end Sys2Proof.Machine
end

