-- ==== Sys2Proof/Machine/LoopRules.lean ====
section
/-! DEFINITION. The cycle rules of 43_loop.md (R118, R119, R121, R127) and of `FAULT` (R152). Each rule reads the state at the
begun cycle. -/

namespace Sys2Proof.Machine

/-- State `STOPPED` (R118, R119, R90): `start` wins over `recv_cmd` (R147). -/
def ruleStopped (i : CycleIn) (s : State) : State :=
  if i.start then
    if i.transportOk then { s with sync := .connected, startFailed := false, st := .top }
    else { s with startFailed := true }
  else if i.recvCmd then { s with timer := s.cfg.cRxSettle, st := .rfSettle }
  else s

/-- AWAIT begins: what `TOP` writes when it does not exit (R121). -/
def beginAwait (s : State) : State := { s with timer := s.cfg.cTimeout, st := .reqWait }

/-- State `TOP` (R121): the one place where `shutdown` is read (R122). -/
def ruleTop (i : CycleIn) (s : State) : State :=
  if i.shutdown then { s with st := .stopped } else beginAwait s

/-- TRANSMIT begins: what `BUILD` writes on `bld_done` (R127). -/
def beginTransmit (n : Nat) (s : State) : State :=
  { s with len := n, timer := s.cfg.cPostRecv, st := .txSettle }

/-- State `BUILD` (R127): `BUILD_ADDR` wins over `TX_LENGTH`, either over the write and `bld_done` (R147). -/
def ruleBuild (i : CycleIn) (s : State) : Except Fault State :=
  if i.bldWe && decide (s.cfg.txCapacity ≤ bldAddrOf i s) then .ok (raiseFault .buildAddr s)
  else if i.bldDone && decide (s.cfg.txCapacity < bldLenOf i s) then .ok (raiseFault .txLength s)
  else do
    let s' ← if i.bldWe then bufWriteTx (bldAddrOf i s) i.bldWdata s else .ok s
    .ok (if i.bldDone then beginTransmit (bldLenOf i s) s' else s')

/-- State `FAULT` (R152): no register is written, every input is ignored. -/
def ruleFault (s : State) : State := s

end Sys2Proof.Machine
end

