-- ==== Sys2Proof/Syntax.lean ====
section
/-! DEFINITION. The instruction set: the seven operations and the four request classes of R64, one constructor per row of
spec/opcode_table.json. -/

namespace Sys2Proof

/-- The engine's operations (R61) and request classes (R64). Operands of operations are not in the word (R60, R63): they
stand in the state's operand fields. A request class carries the bytes its encoding leaves open. -/
inductive Instr where
  /-- `scan_for_terminator(byte, index)` (R72). -/
  | scan
  /-- `finalize_checksum(buffer)` (R73). -/
  | finalize
  /-- `await_request(transport, timeout)` (R80). -/
  | await
  /-- `read_until_terminator(transport, timeout)` (R88). -/
  | recvFrame
  /-- `transmit(transport, buffer, length)` (R99). -/
  | transmit
  /-- One pass of the ProtocolLoop (R115). -/
  | iterate
  /-- The loop's start (R114). -/
  | start
  /-- Request `[SENTINEL, EAM_ID]` (R128). -/
  | reqEam
  /-- Request `[SENTINEL, GPS_ID]` (R129). -/
  | reqGps
  /-- Request `[SENTINEL, m]` with `m` neither supported id (R130). -/
  | reqUnknown (m : Byte)
  /-- A first byte other than `SENTINEL` (R131). -/
  | reqInvalid (mode : Byte)
deriving DecidableEq, Repr

/-- The formats an instruction is written in (R55). -/
inductive Format where
  /-- Operation word, one byte, the model's syntax (R60). -/
  | op8
  /-- Two-byte request (R56). -/
  | req16
  /-- One-byte invalid request (R57). -/
  | mode8
deriving DecidableEq, Repr

/-- The format of each row of the opcode map (R61, R64). -/
def Instr.format : Instr → Format
  | .scan => .op8
  | .finalize => .op8
  | .await => .op8
  | .recvFrame => .op8
  | .transmit => .op8
  | .iterate => .op8
  | .start => .op8
  | .reqEam => .req16
  | .reqGps => .req16
  | .reqUnknown _ => .req16
  | .reqInvalid _ => .mode8

/-- The length of a format in bytes (R55). -/
def Format.bytes : Format → Nat
  | .op8 => 1
  | .req16 => 2
  | .mode8 => 1

end Sys2Proof
end

