-- ==== Sys2Proof/WellFormed.lean ====
section
/-! DEFINITION. Which instruction terms a parameter set has an encoding for (R64). -/

namespace Sys2Proof

/-- A module id the engine supports: exactly `EAM_ID` and `GPS_ID` (R10, R126). -/
def Config.supports (c : Config) (m : Byte) : Bool := m == c.eamId || m == c.gpsId

/-- `reqUnknown m` needs an unsupported `m`, `reqInvalid b` needs `b != SENTINEL` (R64); every other term is well formed. -/
def Instr.wellFormed (c : Config) : Instr → Bool
  | .scan => true
  | .finalize => true
  | .await => true
  | .recvFrame => true
  | .transmit => true
  | .iterate => true
  | .start => true
  | .reqEam => true
  | .reqGps => true
  | .reqUnknown m => !c.supports m
  | .reqInvalid b => b != c.sentinel

end Sys2Proof
end

