-- ==== Sys2Proof/Decode.lean ====
section
/-! DEFINITION. Decoding of operation words (R60, R61, R66) and of request bytes (R65), the encoder, and the host's probe of
the decoder. -/

namespace Sys2Proof

/-- Why bytes spell no instruction. -/
inductive DecodeError where
  /-- The operation word has `op = 7` or a bit of 7:3 set (R66). -/
  | reservedOpWord (w : Byte)
  /-- The bytes end before the request is whole (R65 reads on; R84 waits for the module byte). -/
  | incomplete
deriving DecidableEq, Repr

/-- Where the bytes stand: presented to the model as an operation word, or on the wire. The same byte means different
things there (R60: no wire carries an operation word). -/
inductive Source where
  /-- The model's operation word. -/
  | opPort
  /-- The RX stream. -/
  | wire
deriving DecidableEq, Repr

/-- Where a format's bytes stand (R55). -/
def Format.source : Format → Source
  | .op8 => .opPort
  | .req16 => .wire
  | .mode8 => .wire

/-- Bits 7:3 of an operation word (R60). -/
def opZeroField (w : Byte) : BitVec 5 := w.extractLsb' 3 5

/-- Bits 2:0 of an operation word (R60). -/
def opField (w : Byte) : BitVec 3 := w.extractLsb' 0 3

/-- The operation code table of R61; code 7 is reserved (R66). -/
def opOfCode (op : BitVec 3) : Option Instr :=
  match op.toNat with
  | 0 => some .scan
  | 1 => some .finalize
  | 2 => some .await
  | 3 => some .recvFrame
  | 4 => some .transmit
  | 5 => some .iterate
  | 6 => some .start
  | _ => none

/-- Decode an operation word (R60, R61); every other word is refused by name (R66). -/
def decodeOp8 (w : Byte) : Except DecodeError Instr :=
  if opZeroField w = 0 then
    match opOfCode (opField w) with
    | some i => .ok i
    | none => .error (.reservedOpWord w)
  else .error (.reservedOpWord w)

/-- The class of a request whose mode byte is `SENTINEL`, by its ModuleId, tested in the order of R65. -/
def classify (c : Config) (m : Byte) : Instr :=
  if m = c.eamId then .reqEam
  else if m = c.gpsId then .reqGps
  else .reqUnknown m

/-- Request decoding (R65): the first byte decides the length (R69). Answers the class and the bytes left. -/
def decodeRequest (c : Config) : List Byte → Except DecodeError (Instr × List Byte)
  | [] => .error .incomplete
  | b0 :: rest =>
    if b0 = c.sentinel then
      match rest with
      | [] => .error .incomplete
      | b1 :: rest' => .ok (classify c b1, rest')
    else .ok (.reqInvalid b0, rest)

/-- The decoder: total on any bytes, answering the instruction and the bytes after it. -/
def decode (c : Config) : Source → List Byte → Except DecodeError (Instr × List Byte)
  | .opPort, [] => .error .incomplete
  | .opPort, w :: rest => (decodeOp8 w).map fun i => (i, rest)
  | .wire, bytes => decodeRequest c bytes

/-- The bytes of an instruction, first on the wire first (R56, R57, R61). -/
def encode (c : Config) : Instr → List Byte
  | .scan => [0x00]
  | .finalize => [0x01]
  | .await => [0x02]
  | .recvFrame => [0x03]
  | .transmit => [0x04]
  | .iterate => [0x05]
  | .start => [0x06]
  | .reqEam => [c.sentinel, c.eamId]
  | .reqGps => [c.sentinel, c.gpsId]
  | .reqUnknown m => [c.sentinel, m]
  | .reqInvalid b => [b]

/-- The 16-bit notation of a request: the first byte on the wire in bits 15:8 (R56). -/
def req16 (mode module : Byte) : BitVec 16 := mode ++ module

/-- Bits 15:8 of a word as numbered by the opcode table. -/
def highByte (w : Nat) : Byte := BitVec.ofNat 8 (w / 256)

/-- Bits 7:0 of a word as numbered by the opcode table. -/
def lowByte (w : Nat) : Byte := BitVec.ofNat 8 w

/-- Where the bytes of a table word stand and what they are (entry 15). A 16-bit word is a `REQ16` value, its first wire
byte in the high half (R56). An 8-bit word is an operation word where R61 gives one, and otherwise the first byte of a
request, the second one 0 where `SENTINEL` asks for it. -/
def tableBytes (c : Config) (nbits w : Nat) : Source × List Byte :=
  if nbits ≤ 8 then
    match decodeOp8 (lowByte w) with
    | .ok _ => (.opPort, [lowByte w])
    | .error _ => (.wire, if lowByte w = c.sentinel then [lowByte w, 0] else [lowByte w])
  else (.wire, [highByte w, lowByte w])

/-- The instruction the decoder reads from a word of the opcode table, with the parameters of `State.reset`. -/
def decodeTableWord (nbits w : Nat) : Option Instr :=
  if nbits ≤ 16 then
    match decode Config.reference (tableBytes Config.reference nbits w).1 (tableBytes Config.reference nbits w).2 with
    | .ok (i, _) => some i
    | .error _ => none
  else none

end Sys2Proof
end

