-- ==== Sys2Proof/Machine/ReceiveRules.lean ====
section
/-! DEFINITION. The cycle rules of 41_receive.md (R83, R84, R91 to R95), with the loop's reaction to AWAIT's outcome, which
falls in the same cycle (R123 to R126). Each rule reads the state at the begun cycle (`beginCycle`). -/

namespace Sys2Proof.Machine

/-! ## The loop's reaction to a decoded request, by class -/

/-- A request for the EAM module: reconnect and ask the builder (R84, R125, R126, R128). -/
def acceptEam (s : State) : State := { reconnect s.cfg.eamId s with st := .build }

/-- A request for the GPS module: reconnect and ask the builder (R84, R125, R126, R129). -/
def acceptGps (s : State) : State := { reconnect s.cfg.gpsId s with st := .build }

/-- A request for any other module: reconnect and skip (R84, R125, R126, R130). -/
def acceptUnknown (m : Byte) (s : State) : State := { reconnect m s with st := .top }

/-- A first byte other than `SENTINEL`: discarded, resync (R83, R124, R131). -/
def rejectInvalid (_mode : Byte) (s : State) : State := resync .invalid s

/-- Dispatch of `Outcome(MODULE(m))` (R84, R125, R126), the tests in the order of R65. -/
def dispatchModule (m : Byte) (s : State) : State :=
  if m = s.cfg.eamId then acceptEam s
  else if m = s.cfg.gpsId then acceptGps s
  else acceptUnknown m s

/-! ## AWAIT -/

/-- State `REQ_WAIT` (R83): an available byte wins over the end of the window (R147). -/
def ruleReqWait (s : State) : State :=
  match s.rxQueue with
  | b :: _ =>
    if b = s.cfg.sentinel then { popRx s with st := .reqId }
    else rejectInvalid b (popRx s)
  | [] =>
    if s.timer = 0 then resync .timeout s
    else { s with timer := s.timer - 1 }

/-- State `REQ_ID` (R84): no timer. -/
def ruleReqId (s : State) : State :=
  match s.rxQueue with
  | m :: _ => dispatchModule m (popRx s)
  | [] => s

/-! ## RECV_FRAME -/

/-- State `RF_SETTLE` (R91). -/
def ruleRfSettle (s : State) : State :=
  if s.timer = 0 then { s with timer := s.cfg.cTimeout, st := .rfPoll }
  else { s with timer := s.timer - 1 }

/-- State `RF_POLL` (R92): no byte is consumed here. -/
def ruleRfPoll (s : State) : State :=
  match s.rxQueue with
  | _ :: _ => { s with rxCount := 0, st := .rfScan }
  | [] =>
    if s.timer = 0 then pulseRfDone { s with rfStatus := .timeout, rfLen := 0, st := .stopped }
    else { s with timer := s.timer - 1 }

/-- State `RF_SCAN` (R93, R95): the capacity check comes before the store (R147). -/
def ruleRfScan (s : State) : Except Fault State :=
  match s.rxQueue with
  | b :: _ =>
    if s.rxCount = s.cfg.rxCapacity then .ok (raiseFault .rxOverrun s)
    else do
      let s' ← bufWriteRx s.rxCount b (popRx s)
      .ok { s' with
        rxCount := s.rxCount + 1
        st := if scan s.cfg b s.rxCount then .rfTrail else .rfScan }
  | [] => .ok s

/-- State `RF_TRAIL` (R94, R95): the byte after the terminator ends the frame, whatever it is (R96). -/
def ruleRfTrail (s : State) : Except Fault State :=
  match s.rxQueue with
  | b :: _ =>
    if s.rxCount = s.cfg.rxCapacity then .ok (raiseFault .rxOverrun s)
    else do
      let s' ← bufWriteRx s.rxCount b (popRx s)
      .ok (pulseRfDone { s' with
        rxCount := s.rxCount + 1
        rfLen := s.rxCount + 1
        rfStatus := .ok
        st := .stopped })
  | [] => .ok s

end Sys2Proof.Machine
end

