-- ==== Sys2Proof/Machine/TransmitRules.lean ====
section
/-! DEFINITION. The cycle rules of 42_transmit.md (R103 to R106). Each rule reads the state at the begun cycle. -/

namespace Sys2Proof.Machine

/-- State `TX_SETTLE` (R103). -/
def ruleTxSettle (s : State) : State :=
  if s.timer = 0 then
    if s.len = 0 then { s with idx := 0, csum := 0x00, drainRem := 0, st := .txDrain }
    else { s with idx := 0, csum := 0x00, st := .txByte }
  else { s with timer := s.timer - 1 }

/-- `idx = len - 1`: the next byte is the checksum's (R104, R105; entry 18). -/
def atLastByte (s : State) : Bool := s.idx + 1 == s.len

/-- State `TX_BYTE` (R104): the last byte sent is the checksum, which replaces the placeholder. -/
def ruleTxByte (i : CycleIn) (s : State) : Except Fault State :=
  if i.txReady then
    if atLastByte s then do
      let s' ← bufWriteTx s.idx s.csum s
      .ok { txWrite s.csum s' with timer := s.cfg.cInterbyte, st := .txGap }
    else do
      let v ← bufReadTx s.idx s
      .ok { txWrite v s with csum := s.csum + v, timer := s.cfg.cInterbyte, st := .txGap }
  else .ok s

/-- State `TX_GAP` (R105). -/
def ruleTxGap (s : State) : State :=
  if s.timer = 0 then
    if atLastByte s then { s with drainRem := s.len, st := .txDrain }
    else { s with idx := s.idx + 1, st := .txByte }
  else { s with timer := s.timer - 1 }

/-- State `TX_DRAIN` (R106): at most one byte a cycle, at most `len` in all, and no waiting. -/
def ruleTxDrain (s : State) : State :=
  match s.rxQueue with
  | _ :: _ =>
    if 0 < s.drainRem then { popRx s with drainRem := s.drainRem - 1 }
    else { s with st := .top }
  | [] => { s with st := .top }

end Sys2Proof.Machine
end

