-- ==== Sys2Proof/Machine/Clock.lean ====
section
/-! DEFINITION. One clock cycle of the normative engine (R36, D36), runs of cycles, and a run of the cycles an operation
takes. -/

namespace Sys2Proof.Machine

/-- The transition rule of the current FSM state (R18, R36). -/
def cycleRule (i : CycleIn) (s : State) : Except Fault State :=
  match s.st with
  | .stopped => .ok (ruleStopped i s)
  | .top => .ok (ruleTop i s)
  | .reqWait => .ok (ruleReqWait s)
  | .reqId => .ok (ruleReqId s)
  | .build => ruleBuild i s
  | .txSettle => .ok (ruleTxSettle s)
  | .txByte => ruleTxByte i s
  | .txGap => .ok (ruleTxGap s)
  | .txDrain => .ok (ruleTxDrain s)
  | .rfSettle => .ok (ruleRfSettle s)
  | .rfPoll => .ok (ruleRfPoll s)
  | .rfScan => ruleRfScan s
  | .rfTrail => ruleRfTrail s
  | .fault => .ok (ruleFault s)

/-- One clock cycle with given port values: the reset rule if `rst = 1` (R147, R167, R170), else exactly one transition rule
(R36). -/
def clockOn (i : CycleIn) (s : State) : Except Fault State :=
  if i.rst then .ok (applyReset (beginCycle i s)) else cycleRule i (beginCycle i s)

/-- One clock cycle with the port values of this cycle. -/
def clock (s : State) : Except Fault State := clockOn s.thisInput s

/-- `k` clock cycles. -/
def clocks : Nat → State → Except Fault State
  | 0, s => .ok s
  | k + 1, s => (clock s).bind (clocks k)

/-- Clock cycles while the FSM is in the given states, at most `fuel` of them. -/
def runWhile (busy : St → Bool) : Nat → State → Except Fault State
  | 0, s => .ok s
  | k + 1, s => if busy s.st then (clock s).bind (runWhile busy k) else .ok s

/-- More cycles than any operation takes when its unbounded waits are not counted (R163, R165, R183): the delay the engine is
in, every delay an operation can load after it, and one cycle for every byte of either buffer. -/
def operationBound (c : Config) : Nat :=
  c.maxDelay + c.cTimeout + c.cPostRecv + c.cRxSettle + (c.txCapacity + 1) * (c.cInterbyte + 2)
    + c.txCapacity + c.rxCapacity + 16

/-- How many cycles the model runs one operation for: the listed inputs are used up, and then whatever still moves has come
to its end. What has not ended by then waits for an input that never comes (R163; entry 13). -/
def operationFuel (s : State) : Nat := s.inputs.length + operationBound s.cfg

end Sys2Proof.Machine
end

