-- ==== Sys2Proof/Machine/Loop.lean ====
section
/-! DEFINITION. The meanings of START and ITERATE (43_loop.md). -/

namespace Sys2Proof.Machine

/-- START (R114): a cycle with a `start` pulse. It counts in `STOPPED` only (R118 to R120). -/
def execStart (s : State) : Host.Outcome State Fault Refusal :=
  answer (clockOn { s.thisInput with start := true } s)

/-- ITERATE (R115): one pass of the loop, from the `TOP` cycle (R121) until the iteration is over. Presented inside an
iteration it runs that iteration to its end. -/
def execIterate (s : State) : Host.Outcome State Fault Refusal :=
  answer ((clock s).bind (runWhile inIteration (operationFuel s)))

end Sys2Proof.Machine
end

