-- ==== Sys2Proof/Machine/Receive.lean ====
section
/-! DEFINITION. The meanings of AWAIT and RECV_FRAME (41_receive.md): the whole operation, as a run of its cycle rules. -/

namespace Sys2Proof.Machine

/-- AWAIT (R80): entered from `TOP` with `timer <- C_TIMEOUT` (R121), it runs in `REQ_WAIT` and `REQ_ID` until its outcome is
decided; the loop acts on the outcome in the same cycle (R123). Presented in an AWAIT state it runs to its end; where the loop
does not invoke it, it is ignored and the cycle's own rule applies (entry 12). -/
def execAwait (s : State) : Host.Outcome State Fault Refusal :=
  answer (match s.st with
    | .top => runWhile isAwait (operationFuel s) (beginAwait s)
    | _ => (clock s).bind (runWhile isAwait (operationFuel s)))

/-- RECV_FRAME (R88, R90): a cycle with a `recv_cmd` pulse, then the RECV_FRAME states until they are left. The pulse counts
in `STOPPED` with `start = 0` only. -/
def execRecvFrame (s : State) : Host.Outcome State Fault Refusal :=
  answer ((clockOn { s.thisInput with recvCmd := true } s).bind (runWhile isRecv (operationFuel s)))

end Sys2Proof.Machine
end

