-- ==== Sys2Proof/Machine/Requests.lean ====
section
/-! DEFINITION. The meanings of the request classes (R64, R128 to R131): what the loop does with one decoded request, from the
cycle in which it is decoded to the end of the iteration. -/

namespace Sys2Proof.Machine

/-- The cycles that answer a request for a supported module, from the one after its dispatch: `BUILD`, TRANSMIT, drain
(R127, R99). -/
def serve (s : State) : Except Fault State := runWhile isServing (operationFuel s) s

/-- REQ_EAM (R128), decoded in `REQ_ID`. Elsewhere the engine decodes no request and the cycle's own rule applies
(entry 14). -/
def execReqEam (s : State) : Host.Outcome State Fault Refusal :=
  answer (if s.st = .reqId then serve (acceptEam s) else clock s)

/-- REQ_GPS (R129), decoded in `REQ_ID` (entry 14). -/
def execReqGps (s : State) : Host.Outcome State Fault Refusal :=
  answer (if s.st = .reqId then serve (acceptGps s) else clock s)

/-- REQ_UNKNOWN (R130), decoded in `REQ_ID`: no build, no transmission, no drain (entry 14). -/
def execReqUnknown (m : Byte) (s : State) : Host.Outcome State Fault Refusal :=
  answer (if s.st = .reqId then .ok (acceptUnknown m s) else clock s)

/-- REQ_INVALID (R131), decoded in `REQ_WAIT` (entry 14). -/
def execReqInvalid (mode : Byte) (s : State) : Host.Outcome State Fault Refusal :=
  answer (if s.st = .reqWait then .ok (rejectInvalid mode s) else clock s)

end Sys2Proof.Machine
end

