-- ==== Sys2Proof/Machine/Transmit.lean ====
section
/-! DEFINITION. The meaning of TRANSMIT (42_transmit.md): the whole operation, as a run of its cycle rules. -/

namespace Sys2Proof.Machine

/-- TRANSMIT n (R99): invoked from `BUILD`, in a cycle with `bld_done = 1` and `bld_len = n`, where the length is checked
(R127); then the TRANSMIT states until they are left. `bld_done` counts in `BUILD` only (R35). -/
def execTransmit (s : State) : Host.Outcome State Fault Refusal :=
  answer ((clockOn { s.thisInput with bldDone := true, bldLen := s.args.length } s).bind
    (runWhile isTransmit (operationFuel s)))

end Sys2Proof.Machine
end

