-- ==== Sys2Proof/Machine/Dispatch.lean ====
section
/-! DEFINITION. One arm per row of the opcode table (R61, R64). -/

namespace Sys2Proof.Machine

def exec (i : Instr) (s : State) : Host.Outcome State Fault Refusal :=
  match i with
  | .scan => Sys2Proof.Machine.execScan s
  | .finalize => Sys2Proof.Machine.execFinalize s
  | .await => Sys2Proof.Machine.execAwait s
  | .recvFrame => Sys2Proof.Machine.execRecvFrame s
  | .transmit => Sys2Proof.Machine.execTransmit s
  | .iterate => Sys2Proof.Machine.execIterate s
  | .start => Sys2Proof.Machine.execStart s
  | .reqEam => Sys2Proof.Machine.execReqEam s
  | .reqGps => Sys2Proof.Machine.execReqGps s
  | .reqUnknown m => Sys2Proof.Machine.execReqUnknown m s
  | .reqInvalid mode => Sys2Proof.Machine.execReqInvalid mode s

end Sys2Proof.Machine
end

