-- ==== Sys2Proof/Machine/Fetch.lean ====
section
/-! DEFINITION. Where the engine's instructions come from: request bytes at the head of the RX stream, read while AWAIT listens
(R65, R82 to R84), and the operation word presented to the model (R60); and how the host places one of either. -/

namespace Sys2Proof.Machine

/-- In `REQ_ID`, with `SENTINEL` consumed: the cycle that reads the module byte, up to the decoded class (R84). -/
def fetchModule (s : State) : Option (Instr × State) :=
  if s.thisInput.rst then none
  else
    match (beginCycle s.thisInput s).rxQueue with
    | [] => none
    | m :: _ =>
      match decode s.cfg .wire [s.cfg.sentinel, m] with
      | .ok (i, _) => some (i, popRx (beginCycle s.thisInput s))
      | .error _ => none

/-- In `REQ_WAIT`: the cycle that reads the mode byte, and for a `SENTINEL` the cycle after it (R83, R84, R69). -/
def fetchMode (s : State) : Option (Instr × State) :=
  if s.thisInput.rst then none
  else
    match (beginCycle s.thisInput s).rxQueue with
    | [] => none
    | b :: _ =>
      match decode s.cfg .wire [b] with
      | .ok (i, _) => some (i, popRx (beginCycle s.thisInput s))
      | .error _ => fetchModule { popRx (beginCycle s.thisInput s) with st := .reqId }

/-- The request class the engine decodes from the wire now, with the state of the cycle in which it is decoded, its bytes
consumed (R82). `none` where AWAIT is not listening, the request is not whole, or reset falls in these cycles. -/
def fetchRequest (s : State) : Option (Instr × State) :=
  match s.st with
  | .reqWait => fetchMode s
  | .reqId => fetchModule s
  | _ => none

/-! ## Placing an instruction -/

/-- The FSM state from which the spec invokes an operation (R64, R118, R121, R127). The pure operations have none. -/
def invocationState (i : Instr) (st : St) : St :=
  match i with
  | .scan => st
  | .finalize => st
  | .await => .top
  | .recvFrame => .stopped
  | .transmit => .build
  | .iterate => .top
  | .start => .stopped
  | .reqEam => .reqWait
  | .reqGps => .reqWait
  | .reqUnknown _ => .reqWait
  | .reqInvalid _ => .reqWait

/-- Present an operation word, the engine at the point from which the spec invokes the operation (entry 16). -/
def placeOp (w : Byte) (i : Instr) (s : State) : State :=
  { s with opWord := some w, st := invocationState i s.st }

/-- Put request bytes at the head of the RX queue with AWAIT listening, as `TOP` leaves it (R121), and no reset coming
(entry 16). -/
def placeRequest (bytes : List Byte) (s : State) : State :=
  { beginAwait s with
    opWord := none
    rxQueue := bytes ++ s.rxQueue
    inputs := s.inputs.map fun i => { i with rst := false }
    held := { s.held with rst := false } }

/-- Store a table word where the next step fetches it (entry 16). -/
def placeWord (s : State) (nbits w : Nat) : State :=
  match tableBytes s.cfg nbits w with
  | (.opPort, bytes) =>
    match decodeOp8 (bytes.headD 0) with
    | .ok i => placeOp (bytes.headD 0) i s
    | .error _ => s
  | (.wire, bytes) => placeRequest bytes s

end Sys2Proof.Machine
end

