-- ==== Sys2Proof/Machine/Step.lean ====
section
/-! DEFINITION. One step of the machine, and the host's way to place an instruction. -/

namespace Sys2Proof.Machine

/-- One step. A parameter set that breaks R9 is not this hardware (I18). A presented operation word is decoded and run as a
whole operation (entries 9, 12); a request class decoded from the wire is run to the end of its iteration (entry 14); every
other step is one clock cycle of the engine (R36). -/
def step (s : State) : Host.Outcome State Fault Refusal :=
  if s.cfg.ok then
    match s.opWord with
    | some w =>
      match decodeOp8 w with
      | .ok i => exec i { s with opWord := none }
      | .error _ => .refused (.reservedOpWord w)
    | none =>
      match fetchRequest s with
      | some (i, s') => exec i s'
      | none => answer (clock s)
  else .refused .badParameters

/-- `s` with the instruction of a table word stored where `step` fetches its next instruction (entry 16). -/
def State.withFetchWord (s : State) (nbits w : Nat) : State := placeWord s nbits w

end Sys2Proof.Machine
end

