-- ==== Sys2Proof/Safety.lean ====
section
/-! DEFINITION. What claims about runs are stated in: the machine's invariant, the endings of a run (R181), the unbounded waits
(R163), and the environment's duties (R160, R161, R177 to R180). -/

namespace Sys2Proof.Machine

/-- A buffer of a given capacity in its canonical form, with nothing written outside it (R29, R30, R45). -/
def Memory.fits (m : Memory) (capacity : Nat) : Prop := m.wf = true ∧ ∀ cell ∈ m, cell.1 < capacity

/-- The invariant of the machine: buffers, counters and flags stay within what 10_state.md gives them (R20, R25, R28, R45,
R156), for a parameter set of this hardware (R9). -/
structure Inv (s : State) : Prop where
  /-- The parameters meet R9. -/
  cfgOk : s.cfg.ok = true
  /-- `txbuf` is a buffer of `TX_CAPACITY` bytes (R29). -/
  txbufFits : s.txbuf.fits s.cfg.txCapacity
  /-- `rxbuf` is a buffer of `RX_CAPACITY` bytes (R30). -/
  rxbufFits : s.rxbuf.fits s.cfg.rxCapacity
  /-- `timer` never passes the largest delay (R156). -/
  timerBound : s.timer ≤ s.cfg.maxDelay
  /-- TRANSMIT only runs with `len <= TX_CAPACITY` (R45). -/
  lenBound : s.len ≤ s.cfg.txCapacity
  /-- `idx` stays below the capacity (R45). -/
  idxBound : s.idx ≤ s.cfg.txCapacity
  /-- While a byte is written or has been written, `idx` is an index of the frame (R45). -/
  idxInFrame : s.st = .txByte ∨ s.st = .txGap → s.idx < s.len
  /-- At most a frame is left to drain (R106). -/
  drainBound : s.drainRem ≤ s.cfg.txCapacity
  /-- `rx_count` never passes the capacity (R45, R95). -/
  countBound : s.rxCount ≤ s.cfg.rxCapacity
  /-- In `RF_TRAIL` the terminator is stored (R34, R93). -/
  trailCount : s.st = .rfTrail → 1 ≤ s.rxCount
  /-- `fault` is 1 exactly in `FAULT` (R151, R153). -/
  faultSticky : s.fault = true ↔ s.st = .fault
  /-- A fault has a code, and only a fault has one (R150). -/
  faultCoded : s.faultCode = .none ↔ s.fault = false
  /-- A received frame has a terminator and a trailing byte and fits the buffer (R28, R97). -/
  frameLen : s.rfStatus = .ok → 2 ≤ s.rfLen ∧ s.rfLen ≤ s.cfg.rxCapacity
  /-- Without a received frame `rf_len` is 0 (R89, R168). -/
  noFrameLen : s.rfStatus ≠ .ok → s.rfLen = 0

/-- Clean stop (R181): the engine does nothing more until `start` or `recv_cmd`. -/
def CleanStop (s : State) : Prop := s.st = .stopped ∧ s.fault = false

/-- Fault ending (R181). -/
def Faulted (s : State) : Prop := s.st = .fault ∧ s.fault = true

/-- The waits without a time limit, each with the input it waits for missing in this cycle (R163). -/
def waitingIn (i : CycleIn) (s : State) : Bool :=
  match s.st with
  | .reqId => (s.rxQueue ++ i.rx).isEmpty
  | .rfScan => (s.rxQueue ++ i.rx).isEmpty
  | .rfTrail => (s.rxQueue ++ i.rx).isEmpty
  | .build => !i.bldDone
  | .txByte => !i.txReady
  | _ => false

/-- Every input of the coming cycles, listed or held, meets `p`. -/
def allInputs (p : CycleIn → Prop) (s : State) : Prop := p s.held ∧ ∀ i ∈ s.inputs, p i

/-- No reset comes (`rst` is never 1). -/
def NoReset (s : State) : Prop := allInputs (fun i => i.rst = false) s

/-- The line appends nothing (R160: the poller may be silent for ever). -/
def SilentLine (s : State) : Prop := allInputs (fun i => i.rx = []) s

/-- The transport takes a byte in every cycle. -/
def ReadyTransport (s : State) : Prop := allInputs (fun i => i.txReady = true) s

/-- The port values of the next `k` cycles, from the listed ones and those held after them. -/
def portValues (held : CycleIn) : Nat → List CycleIn → List CycleIn
  | 0, _ => []
  | k + 1, listed => listed.headD held :: portValues held k listed.tail

/-- The bytes the line gives in the next `k` cycles (R160: any bytes at any time). -/
def lineBytes (k : Nat) (s : State) : List Byte := (portValues s.held k s.inputs).flatMap (·.rx)

/-- What the line has put before the engine by its `k`-th coming cycle: the bytes queued now, then those given in these cycles.
While the engine pops nothing and the line echoes nothing, it is the RX queue seen in that cycle. -/
def heardBy (k : Nat) (s : State) : List Byte := s.rxQueue ++ lineBytes k s

/-- A request for module `m` reaches AWAIT, whose first cycle is number `before + 1` (R83 to R85): the mode byte is there in
AWAIT's cycle `j + 1`, inside the window, and the module byte is read in its cycle `k + 1`, the first after that in which it is
there. Behind the request stands `rest`. -/
structure RequestHeard (s : State) (before j k : Nat) (m : Byte) (rest : List Byte) : Prop where
  /-- The mode byte comes within the window. -/
  window : j ≤ s.cfg.cTimeout
  /-- No byte is there before it. -/
  silence : j = 0 ∨ heardBy (before + j) s = []
  /-- A byte is there in that cycle. -/
  first : heardBy (before + j + 1) s ≠ []
  /-- The module byte is read later. -/
  later : j < k
  /-- It is read in the next cycle, or was not there the cycle before. -/
  waited : k = j + 1 ∨ heardBy (before + k) s = [s.cfg.sentinel]
  /-- What is there by then. -/
  whole : heardBy (before + k + 1) s = s.cfg.sentinel :: m :: rest

/-- The poll of a RECV_FRAME begun in this cycle hears a byte after `p` poll cycles that heard none (R91, R92): the first poll
cycle is number `C_RX_SETTLE + 3`, counted from the cycle of `recv_cmd` (R183). -/
structure PollHears (s : State) (p : Nat) : Prop where
  /-- The byte comes within the window. -/
  window : p ≤ s.cfg.cTimeout
  /-- The poll cycles before heard none. -/
  silence : p = 0 ∨ heardBy (s.cfg.cRxSettle + 2 + p) s = []
  /-- This one does. -/
  first : heardBy (s.cfg.cRxSettle + 3 + p) s ≠ []

/-- The state with the builder's write of this cycle applied, as `BUILD` applies it (R38, R49, R127). -/
def buildWrite (i : CycleIn) (s : State) : State :=
  if i.bldWe then { s with txbuf := s.txbuf.write (bldAddrOf i s) i.bldWdata } else s

/-- The builder's write of this cycle, if there is one, is inside `txbuf` (R160; outside it raises `BUILD_ADDR`, R127). -/
def WritesInside (i : CycleIn) (s : State) : Prop := i.bldWe = true → bldAddrOf i s < s.cfg.txCapacity

/-- The builder answers one request as R160 and R180 ask, read off the port values of the `BUILD` cycles. Its duties: every
payload byte is written, and `bld_done` comes with the module's length, once. Its liberties stay: any number of cycles, any bytes,
at any indices below `TX_CAPACITY`. -/
structure BuilderDuty (capacity n : Nat) (answers : List CycleIn) : Prop where
  /-- Writes stay inside `txbuf`. -/
  inside : ∀ i ∈ answers, i.bldWe = true → i.bldAddr < capacity
  /-- Every byte 0 to `n - 2` is written. -/
  complete : ∀ k, k + 1 < n → ∃ i ∈ answers, i.bldWe = true ∧ i.bldAddr = k
  /-- `bld_done` comes once, with the length, in the last cycle. -/
  done : ∃ front last, answers = front ++ [last] ∧ last.bldDone = true ∧ last.bldLen = n
    ∧ ∀ i ∈ front, i.bldDone = false

/-- What the builder's writes leave in a buffer, in order (R38, R49). -/
def applyWrites (m : Memory) (answers : List CycleIn) : Memory :=
  answers.foldl (fun m i => if i.bldWe then m.write i.bldAddr i.bldWdata else m) m

/-- The byte of `txbuf` at index `a` after the builder's writes: the last one written there, or what `txbuf` held. -/
def builtAt (s : State) (answers : List CycleIn) (a : Nat) : Byte :=
  ((applyWrites s.txbuf answers).read? a).getD (Config.txUnwritten a)

/-- The payload a builder that does its duty has given for a frame of `n` bytes: bytes 0 to `n - 2` (R58, R160). -/
def payloadOf (n : Nat) (answers : List CycleIn) : List Byte :=
  (List.range (n - 1)).map fun k => ((applyWrites [] answers).read? k).getD 0

/-- The event the loop pulses when a ModuleId is received (R116, R125). -/
def regainEvents (s : State) : List Event := if s.sync = .syncing then [.sync] else []

/-- The event the loop pulses on a Timeout or an Invalid (R116, R124). -/
def loseEvents (s : State) : List Event := if s.sync = .connected then [.sync] else []

/-! What an operation leaves alone, by kind of state. -/

/-- The parameters, the line's echo mode, the levels held, and the model's own fields but the operation word. -/
structure KeepsModel (s t : State) : Prop where
  cfg : t.cfg = s.cfg
  echo : t.echo = s.echo
  held : t.held = s.held
  args : t.args = s.args
  result : t.result = s.result
  opWord : t.opWord = s.opWord

/-- The fault registers (R25) and `start_failed` (R26). -/
structure KeepsFaultFlags (s t : State) : Prop where
  fault : t.fault = s.fault
  faultCode : t.faultCode = s.faultCode
  startFailed : t.startFailed = s.startFailed

/-- SyncState, the recorded outcome and the request's module (R20, R21, R27). -/
structure KeepsLoop (s t : State) : Prop where
  sync : t.sync = s.sync
  lastResult : t.lastResult = s.lastResult
  lastModule : t.lastModule = s.lastModule
  modId : t.modId = s.modId

/-- The transmit registers (R20), every byte of `txbuf`, and the TX stream. -/
structure KeepsTransmit (s t : State) : Prop where
  idx : t.idx = s.idx
  len : t.len = s.len
  csum : t.csum = s.csum
  drainRem : t.drainRem = s.drainRem
  txAt : ∀ a, t.txAt a = s.txAt a
  txStream : t.txStream = s.txStream

/-- The reception registers (R20, R28) and every byte of `rxbuf`. -/
structure KeepsReceive (s t : State) : Prop where
  rxCount : t.rxCount = s.rxCount
  rfStatus : t.rfStatus = s.rfStatus
  rfLen : t.rfLen = s.rfLen
  rxAt : ∀ a, t.rxAt a = s.rxAt a

end Sys2Proof.Machine
end

