-- ==== Sys2Proof/Certificates/Slice0/Obligations.lean ====
section
/-! DEFINITION. The statements for the provers. Each formalises rules of spec/ as its entry in OBLIGATIONS.json says. -/

open Sys2Proof Sys2Proof.Machine

/-! ## Encoding -/

/-- R56, R57, R61, R64 to R66: the decoder answers an instruction exactly on the bytes that spell it, at its own source,
whatever follows; nothing else decodes to it. -/
def Obligations.DecodeExactlyInvertsEncode : Prop :=
  ∀ (c : Config) (src : Source) (bytes rest : List Byte) (i : Instr), c.ok = true →
    (decode c src bytes = .ok (i, rest) ↔
      i.wellFormed c = true ∧ i.format.source = src ∧ bytes = encode c i ++ rest)

/-- R66: a word with `op = 7` or a bit of 7:3 set is refused by name, by the decoder and by the machine. -/
def Obligations.ReservedOperationWordsRefused : Prop :=
  ∀ w : Byte, opField w = 7 ∨ opZeroField w ≠ 0 →
    decodeOp8 w = .error (.reservedOpWord w) ∧
    ∀ s : State, s.cfg.ok = true → s.opWord = some w → step s = .refused (.reservedOpWord w)

/-- R64, R65, R69: the class and the length of a request, by its first two bytes. -/
def Obligations.RequestClassByItsBytes : Prop :=
  ∀ (c : Config) (b0 b1 : Byte) (rest : List Byte), c.ok = true →
    (b0 ≠ c.sentinel → decode c .wire (b0 :: rest) = .ok (.reqInvalid b0, rest)) ∧
    decode c .wire (c.sentinel :: c.eamId :: rest) = .ok (.reqEam, rest) ∧
    decode c .wire (c.sentinel :: c.gpsId :: rest) = .ok (.reqGps, rest) ∧
    (b1 ≠ c.eamId → b1 ≠ c.gpsId →
      decode c .wire (c.sentinel :: b1 :: rest) = .ok (.reqUnknown b1, rest))

/-- R61, R56, R57: words written out from the encoding tables decode to what they stand for, with the parameters of entry 1
(DESIGN CHOICE: the reference parameter set). That a table word of 16 bits has its first wire byte in bits 15:8, and one of 8 bits
is read as an operation word where R61 gives one, is the model's choice (entry 15). -/
def Obligations.WrittenWordsDecode : Prop :=
  decode Config.reference .opPort [0b00000000] = .ok (.scan, []) ∧
  decode Config.reference .opPort [0b00000011] = .ok (.recvFrame, []) ∧
  decode Config.reference .opPort [0b00000110] = .ok (.start, []) ∧
  decode Config.reference .wire [0b11111000, 0b00000001] = .ok (.reqEam, []) ∧
  decode Config.reference .wire [0b11111000, 0b11111111] = .ok (.reqUnknown 0xFF, []) ∧
  decode Config.reference .wire [0b00000000] = .ok (.reqInvalid 0x00, []) ∧
  decodeTableWord 16 0xF801 = some .reqEam ∧
  decodeTableWord 8 0x06 = some .start

/-! ## The step -/

/-- A presented operation word is decoded and run (entry 9); request bytes on the wire are decoded where AWAIT listens and
run, with the cycles that read them taken and the bytes consumed (R82 to R84, entry 14): one cycle for an invalid mode byte,
two for a `SENTINEL` and its module byte. -/
def Obligations.StepRunsDecodedInstruction : Prop :=
  ∀ s : State, s.cfg.ok = true →
    (∀ (w : Byte) (i : Instr), s.opWord = some w → decodeOp8 w = .ok i → step s = exec i { s with opWord := none }) ∧
    (∀ (b : Byte) (rest : List Byte), s.opWord = none → s.st = .reqWait → s.thisInput.rst = false →
      s.rxQueue = b :: rest → b ≠ s.cfg.sentinel →
      step s = exec (.reqInvalid b) (popRx (beginCycle s.thisInput s))) ∧
    (∀ (m : Byte) (rest : List Byte) (i : Instr) (u : State), s.opWord = none → s.st = .reqWait →
      s.thisInput.rst = false → u = { popRx (beginCycle s.thisInput s) with st := .reqId } → u.thisInput.rst = false →
      s.rxQueue = s.cfg.sentinel :: m :: rest → decode s.cfg .wire [s.cfg.sentinel, m] = .ok (i, []) →
      step s = exec i (popRx (beginCycle u.thisInput u))) ∧
    (∀ (m : Byte) (rest : List Byte) (i : Instr), s.opWord = none → s.st = .reqId → s.thisInput.rst = false →
      s.rxQueue = m :: rest → decode s.cfg .wire [s.cfg.sentinel, m] = .ok (i, []) →
      step s = exec i (popRx (beginCycle s.thisInput s)))

/-- R36, D36: whatever runs without a presented operation word, one step of the machine is one or more clock cycles of the
normative engine, exactly. -/
def Obligations.StepIsClockCycles : Prop :=
  ∀ s : State, s.cfg.ok = true → s.opWord = none → ∃ k, 1 ≤ k ∧ step s = answer (clocks k s)

/-- The invariant holds right after reset, for every parameter set that meets R9 (R168). -/
def Obligations.InvariantAfterReset : Prop :=
  ∀ c : Config, c.ok = true → Inv (State.resetWith c)

/-- R45, R156, R150, R28: every step keeps the invariant, from every state that has it. -/
def Obligations.StepKeepsInvariant : Prop :=
  ∀ s t : State, Inv s → step s = .next t → Inv t

/-- R45: the engine's own indices stay in range, so no step of a state with the invariant reaches outside a buffer: it
answers a next state, or refuses a word that spells no operation (R66). -/
def Obligations.NoAccessOutsideBuffers : Prop :=
  ∀ s : State, Inv s → (∃ t, step s = .next t) ∨ (∃ w, s.opWord = some w ∧ step s = .refused (.reservedOpWord w))

/-- R7, R16: the parameters are fixed when the engine is built: no step changes one. -/
def Obligations.ParametersAreFixed : Prop :=
  ∀ s t : State, step s = .next t → t.cfg = s.cfg

/-- R41, R50: the TX stream is append only, whatever a step runs. -/
def Obligations.TransmittedBytesStay : Prop :=
  ∀ s t : State, step s = .next t → s.txStream <+: t.txStream

/-! ## Reset -/

/-- R167, R168, R170: a cycle with `rst = 1`, in any state and with any other inputs: every register, the derived outputs, no
pulse; the buffers are not written. That the bytes the line gives in that cycle are queued afterwards is read from the spec by
inference (entry 22, DEDUCED), and the clauses on the model's own fields (events, KeepsModel) are the model's frame (entries 1,
6, 10, 20). -/
def Obligations.ResetCycleRule : Prop :=
  ∀ (i : CycleIn) (s : State), i.rst = true → ∃ t, clockOn i s = .ok t ∧
    t.st = .stopped ∧ t.sync = .connected ∧ t.timer = 0 ∧ t.idx = 0 ∧ t.len = 0 ∧ t.drainRem = 0 ∧ t.rxCount = 0 ∧
    t.csum = 0x00 ∧ t.modId = 0x00 ∧ t.fault = false ∧ t.faultCode = .none ∧ t.startFailed = false ∧
    t.lastResult = .none ∧ t.lastModule = 0x00 ∧ t.rfStatus = .none ∧ t.rfLen = 0 ∧
    (∀ a, t.txAt a = s.txAt a) ∧ (∀ a, t.rxAt a = s.rxAt a) ∧
    t.rxQueue = s.rxQueue ++ i.rx ∧ t.txStream = s.txStream ∧ t.events = s.events ∧
    t.running = false ∧ t.bldReq = false ∧ t.syncState = 0 ∧
    t.outs.rxPop = false ∧ t.outs.txWrite = false ∧ t.outs.txData = 0 ∧ t.outs.syncEvent = false ∧
    t.outs.rfDone = false ∧ KeepsModel s t

/-- R168, R169: the state right after reset, and its derived outputs. -/
def Obligations.StateAfterReset : Prop :=
  ∀ c : Config, ∃ t, t = State.resetWith c ∧
    t.st = .stopped ∧ t.sync = .connected ∧ t.timer = 0 ∧ t.idx = 0 ∧ t.len = 0 ∧ t.drainRem = 0 ∧ t.rxCount = 0 ∧
    t.csum = 0x00 ∧ t.modId = 0x00 ∧ t.fault = false ∧ t.faultCode = .none ∧ t.startFailed = false ∧
    t.lastResult = .none ∧ t.lastModule = 0x00 ∧ t.rfStatus = .none ∧ t.rfLen = 0 ∧
    t.running = false ∧ t.bldReq = false ∧ t.syncState = 0 ∧
    t.outs.rxPop = false ∧ t.outs.txWrite = false ∧ t.outs.syncEvent = false ∧ t.outs.rfDone = false

/-! ## Cycle rules and whole-machine rules -/

/-- R22, R35, R90, R118, R120 to R122, R127, R141: each input port is read only in the states whose rule names it: two
cycles whose inputs agree on what the current state reads are the same cycle. -/
def Obligations.InputsReadOnlyWhereRuled : Prop :=
  ∀ (i j : CycleIn) (s : State), i.rst = false → j.rst = false → i.rx = j.rx → i.rfRaddr = j.rfRaddr →
    (s.st = .stopped → i.start = j.start ∧ i.recvCmd = j.recvCmd ∧ (i.start = true → i.transportOk = j.transportOk)) →
    (s.st = .top → i.shutdown = j.shutdown) →
    (s.st = .build → i.bldWe = j.bldWe ∧ i.bldDone = j.bldDone ∧ (i.bldDone = true → i.bldLen = j.bldLen) ∧
      (i.bldWe = true → i.bldAddr = j.bldAddr ∧ i.bldWdata = j.bldWdata)) →
    (s.st = .txByte → i.txReady = j.txReady) →
    clockOn i s = clockOn j s

/-- R24: `sync_event` is pulsed in the cycle `sync` changes value, and only then; a START's reinitialisation does not pulse it,
nor does reset (R167); `sync_state` shows the new value from the next cycle. -/
def Obligations.SyncEventMarksChanges : Prop :=
  ∀ (i : CycleIn) (s t : State), clockOn i s = .ok t →
    (t.outs.syncEvent = true ↔ i.rst = false ∧ s.st ≠ .stopped ∧ t.sync ≠ s.sync) ∧
    (t.outs.syncEvent = true → t.events = s.events ++ [.sync]) ∧
    s.syncState = s.sync.bit ∧ t.syncState = t.sync.bit

/-- R116: the SyncState transitions, complete: an AWAIT that ends in Timeout or Invalid, one that ends in a ModuleId, a START,
and every other cycle. -/
def Obligations.SyncStateTransitions : Prop :=
  ∀ (i : CycleIn) (s t : State), clockOn i s = .ok t → i.rst = false →
    (s.st = .reqWait → t.st = .top → t.sync = .syncing ∧ (t.outs.syncEvent = true ↔ s.sync = .connected)) ∧
    (s.st = .reqId → t.st ≠ .reqId → t.sync = .connected ∧ (t.outs.syncEvent = true ↔ s.sync = .syncing)) ∧
    (s.st = .stopped → t.st = .top → t.sync = .connected ∧ t.outs.syncEvent = false) ∧
    (¬(s.st = .reqWait ∧ t.st = .top) → ¬(s.st = .reqId ∧ t.st ≠ .reqId) → ¬(s.st = .stopped ∧ t.st = .top) →
      t.sync = s.sync ∧ t.outs.syncEvent = false)

/-- R156: `timer` is loaded where a wait begins, with that wait's delay; in a waiting state it goes down by one while it is not
0, and the wait goes on; nothing else changes it. -/
def Obligations.TimerCountsOneWaitDown : Prop :=
  ∀ (i : CycleIn) (s t : State), clockOn i s = .ok t → i.rst = false →
    t.timer = (match s.st, t.st with
      | .top, .reqWait => s.cfg.cTimeout
      | .rfSettle, .rfPoll => s.cfg.cTimeout
      | .build, .txSettle => s.cfg.cPostRecv
      | .txByte, .txGap => s.cfg.cInterbyte
      | .stopped, .rfSettle => s.cfg.cRxSettle
      | .reqWait, .reqWait => s.timer - 1
      | .rfSettle, .rfSettle => s.timer - 1
      | .rfPoll, .rfPoll => s.timer - 1
      | .txSettle, .txSettle => s.timer - 1
      | .txGap, .txGap => s.timer - 1
      | _, _ => s.timer) ∧
    (t.st = s.st → s.st = .reqWait ∨ s.st = .rfSettle ∨ s.st = .rfPoll ∨ s.st = .txSettle ∨ s.st = .txGap → 0 < s.timer)

/-- R23: `running` is 1 exactly while the protocol loop runs. -/
def Obligations.RunningWhileTheLoopRuns : Prop :=
  ∀ s : State, s.running = true ↔ s.st ≠ .stopped ∧ s.st ≠ .fault ∧ s.st ≠ .rfSettle ∧ s.st ≠ .rfPoll ∧ s.st ≠ .rfScan ∧
    s.st ≠ .rfTrail

/-- R41, R22, R33, R104, R133: a byte is written in `TX_BYTE` with `tx_ready = 1` and in no other cycle; it is the checksum for
the last byte of the frame and the byte of `txbuf` before; the line's echo of it is queued before the next cycle. -/
def Obligations.BytesWrittenOnlyInTxByte : Prop :=
  ∀ (i : CycleIn) (s t : State), clockOn i s = .ok t →
    (i.rst = false ∧ s.st = .txByte ∧ i.txReady = true → ∃ v, v = (if s.idx + 1 = s.len then s.csum else s.txAt s.idx) ∧
      t.txStream = s.txStream ++ [v] ∧ t.outs.txWrite = true ∧ t.outs.txData = v ∧
      t.rxQueue = s.rxQueue ++ i.rx ++ (if s.echo then [v] else [])) ∧
    (¬(i.rst = false ∧ s.st = .txByte ∧ i.txReady = true) →
      t.txStream = s.txStream ∧ t.outs.txWrite = false ∧ t.outs.txData = 0)

/-- R40, R82, R189: a cycle takes at most the head byte off the RX queue, and says so on `rx_pop`; only AWAIT, RECV_FRAME and the
drain do (R37). Nothing else leaves the queue; the line adds its bytes and, where it echoes (entry 8), the byte just written. -/
def Obligations.AtMostOneBytePopped : Prop :=
  ∀ (i : CycleIn) (s t : State), clockOn i s = .ok t →
    (t.outs.rxPop = true → (∃ b, s.rxQueue ++ i.rx = b :: t.rxQueue) ∧ i.rst = false ∧
      (s.st = .reqWait ∨ s.st = .reqId ∨ s.st = .rfScan ∨ s.st = .rfTrail ∨ s.st = .txDrain)) ∧
    (t.outs.rxPop = false →
      t.rxQueue = s.rxQueue ++ i.rx ++ (if s.echo then t.txStream.drop s.txStream.length else [])) ∧
    (s.st = .txByte → t.outs.rxPop = false)

/-- R38, R39, R45: a byte of a buffer changes only by its writers: the builder's write in `BUILD` at `bld_addr`, the checksum
write of `TX_BYTE` at `idx`, and the stores of `RF_SCAN` and `RF_TRAIL` at `rx_count`. -/
def Obligations.BuffersChangeOnlyByTheirWriters : Prop :=
  ∀ (i : CycleIn) (s t : State), clockOn i s = .ok t → ∀ a : Nat,
    (¬(i.rst = false ∧ s.st = .build ∧ i.bldWe = true ∧ a = bldAddrOf i s) →
      ¬(i.rst = false ∧ s.st = .txByte ∧ i.txReady = true ∧ s.idx + 1 = s.len ∧ a = s.idx) →
      t.txAt a = s.txAt a) ∧
    (¬(i.rst = false ∧ (s.st = .rfScan ∨ s.st = .rfTrail) ∧ s.rxQueue ++ i.rx ≠ [] ∧ s.rxCount < s.cfg.rxCapacity ∧
        a = s.rxCount) →
      t.rxAt a = s.rxAt a)

/-- R149 to R151, R147: a fault is raised in exactly the cases of the table, with its code, and the cycle has no other effect: no
pop, no write, no pulse, no other register. -/
def Obligations.FaultsArePrecise : Prop :=
  ∀ (i : CycleIn) (s t : State), clockOn i s = .ok t → i.rst = false → s.st ≠ .fault →
    (t.st = .fault ↔
      ((s.st = .rfScan ∨ s.st = .rfTrail) ∧ s.rxQueue ++ i.rx ≠ [] ∧ s.rxCount = s.cfg.rxCapacity) ∨
      (s.st = .build ∧ i.bldWe = true ∧ s.cfg.txCapacity ≤ bldAddrOf i s) ∨
      (s.st = .build ∧ i.bldDone = true ∧ s.cfg.txCapacity < bldLenOf i s)) ∧
    (t.st = .fault → t.fault = true ∧
      t.faultCode = (if s.st = .build then
          (if i.bldWe = true ∧ s.cfg.txCapacity ≤ bldAddrOf i s then .buildAddr else .txLength)
        else .rxOverrun) ∧
      t.timer = s.timer ∧ t.startFailed = s.startFailed ∧ t.rxQueue = s.rxQueue ++ i.rx ∧ t.events = s.events ∧
      t.outs.rxPop = false ∧ t.outs.txWrite = false ∧ t.outs.syncEvent = false ∧ t.outs.rfDone = false ∧
      t.running = false ∧ KeepsLoop s t ∧ KeepsTransmit s t ∧ KeepsReceive s t ∧ KeepsModel s t)

/-- R152, R153: with no reset, no step leaves `FAULT`, whatever the inputs and whatever operation is presented: no register is
written, no event is pulsed and no byte is popped or sent. -/
def Obligations.OnlyResetLeavesFault : Prop :=
  ∀ s t : State, s.st = .fault → NoReset s → step s = .next t →
    t.st = .fault ∧ t.timer = s.timer ∧ t.events = s.events ∧ s.rxQueue <+: t.rxQueue ∧ t.running = false ∧
    t.bldReq = false ∧ KeepsFaultFlags s t ∧ KeepsLoop s t ∧ KeepsTransmit s t ∧ KeepsReceive s t

/-- R163, R84, R93, R94, R104, R127: in a wait without a time limit whose input is missing, a cycle changes no register and no
buffer and asserts no pulse: the engine holds for as long as the environment withholds the input. -/
def Obligations.UnboundedWaitsHold : Prop :=
  ∀ (i : CycleIn) (s : State), i.rst = false → waitingIn i s = true → (s.st = .build → i.bldWe = false) →
    ∃ t, clockOn i s = .ok t ∧ t.st = s.st ∧ t.timer = s.timer ∧ t.rxQueue = s.rxQueue ++ i.rx ∧ t.events = s.events ∧
      t.outs.rxPop = false ∧ t.outs.txWrite = false ∧ t.outs.syncEvent = false ∧ t.outs.rfDone = false ∧
      KeepsFaultFlags s t ∧ KeepsLoop s t ∧ KeepsTransmit s t ∧ KeepsReceive s t ∧ KeepsModel s t

/-- R30, R44, R45: `rf_rdata` is the byte of `rxbuf` at `rf_raddr` as of the start of the cycle, and 0 at and above the
capacity, in every cycle of every state. -/
def Obligations.ReadPortShowsRxbuf : Prop :=
  ∀ (i : CycleIn) (s t : State), clockOn i s = .ok t →
    t.outs.rfRdata = (if lenPort s.cfg i.rfRaddr < s.cfg.rxCapacity then s.rxAt (lenPort s.cfg i.rfRaddr) else 0)

/-- R127: the whole `BUILD` rule, in the order of its tests. -/
def Obligations.BuildCycleRule : Prop :=
  ∀ (i : CycleIn) (s : State), s.st = .build → i.rst = false → ∃ u, u = beginCycle i s ∧
    s.bldReq = true ∧ s.bldModule = s.modId ∧
    (i.bldWe = true → s.cfg.txCapacity ≤ bldAddrOf i s →
      clockOn i s = .ok { u with fault := true, faultCode := .buildAddr, st := .fault }) ∧
    (¬(i.bldWe = true ∧ s.cfg.txCapacity ≤ bldAddrOf i s) → i.bldDone = true → s.cfg.txCapacity < bldLenOf i s →
      clockOn i s = .ok { u with fault := true, faultCode := .txLength, st := .fault }) ∧
    (¬(i.bldWe = true ∧ s.cfg.txCapacity ≤ bldAddrOf i s) → ¬(i.bldDone = true ∧ s.cfg.txCapacity < bldLenOf i s) →
      ∃ w, w = (if i.bldWe then { u with txbuf := u.txbuf.write (bldAddrOf i s) i.bldWdata } else u) ∧
        clockOn i s = .ok (if i.bldDone then
          { w with len := bldLenOf i s, timer := s.cfg.cPostRecv, st := .txSettle } else w))

/-- R83, R147: an available byte is taken even in the last cycle of the window; with none, the window ends or the timer counts
down. -/
def Obligations.ByteWinsOverTimeout : Prop :=
  ∀ (i : CycleIn) (s : State), s.st = .reqWait → i.rst = false → ∃ t, clockOn i s = .ok t ∧
    (∀ rest, s.rxQueue ++ i.rx = s.cfg.sentinel :: rest → t.st = .reqId ∧ t.rxQueue = rest ∧ t.outs.rxPop = true ∧
      t.timer = s.timer ∧ t.sync = s.sync ∧ t.lastResult = s.lastResult) ∧
    (∀ b rest, s.rxQueue ++ i.rx = b :: rest → b ≠ s.cfg.sentinel → t.st = .top ∧ t.rxQueue = rest ∧
      t.outs.rxPop = true ∧ t.timer = s.timer ∧ t.sync = .syncing ∧ t.lastResult = .invalid) ∧
    (s.rxQueue ++ i.rx = [] → s.timer = 0 → t.st = .top ∧ t.rxQueue = [] ∧ t.outs.rxPop = false ∧
      t.sync = .syncing ∧ t.lastResult = .timeout) ∧
    (s.rxQueue ++ i.rx = [] → 0 < s.timer → t.st = .reqWait ∧ t.rxQueue = [] ∧ t.outs.rxPop = false ∧
      t.timer + 1 = s.timer ∧ t.sync = s.sync ∧ t.lastResult = s.lastResult)

/-- R118: the whole `STOPPED` rule. -/
def Obligations.StoppedCycleRule : Prop :=
  ∀ (i : CycleIn) (s : State), s.st = .stopped → i.rst = false → ∃ u, u = beginCycle i s ∧
    (i.start = true → i.transportOk = true →
      clockOn i s = .ok { u with sync := .connected, startFailed := false, st := .top }) ∧
    (i.start = true → i.transportOk = false → clockOn i s = .ok { u with startFailed := true }) ∧
    (i.start = false → i.recvCmd = true → clockOn i s = .ok { u with timer := s.cfg.cRxSettle, st := .rfSettle }) ∧
    (i.start = false → i.recvCmd = false → clockOn i s = .ok u)

/-- R91 to R94: the cycle rules of RECV_FRAME, for every count that fits `rxbuf`. -/
def Obligations.ReceptionCycleRules : Prop :=
  ∀ (i : CycleIn) (s : State), i.rst = false → ∃ u, u = beginCycle i s ∧
    (s.st = .rfSettle →
      (s.timer = 0 → clockOn i s = .ok { u with timer := s.cfg.cTimeout, st := .rfPoll }) ∧
      (0 < s.timer → clockOn i s = .ok { u with timer := s.timer - 1 })) ∧
    (s.st = .rfPoll →
      (u.rxQueue ≠ [] → clockOn i s = .ok { u with rxCount := 0, st := .rfScan }) ∧
      (u.rxQueue = [] → s.timer = 0 → clockOn i s = .ok (pulseRfDone { u with
        rfStatus := .timeout, rfLen := 0, st := .stopped })) ∧
      (u.rxQueue = [] → 0 < s.timer → clockOn i s = .ok { u with timer := s.timer - 1 })) ∧
    (s.st = .rfScan →
      (u.rxQueue = [] → clockOn i s = .ok u) ∧
      (∀ b rest, u.rxQueue = b :: rest →
        (s.rxCount = s.cfg.rxCapacity → clockOn i s = .ok (raiseFault .rxOverrun u)) ∧
        (s.rxCount < s.cfg.rxCapacity → clockOn i s = .ok { popRx u with
          rxbuf := u.rxbuf.write s.rxCount b
          rxCount := s.rxCount + 1
          st := if b = s.cfg.terminator then .rfTrail else .rfScan }))) ∧
    (s.st = .rfTrail →
      (u.rxQueue = [] → clockOn i s = .ok u) ∧
      (∀ b rest, u.rxQueue = b :: rest →
        (s.rxCount = s.cfg.rxCapacity → clockOn i s = .ok (raiseFault .rxOverrun u)) ∧
        (s.rxCount < s.cfg.rxCapacity → clockOn i s = .ok (pulseRfDone { popRx u with
          rxbuf := u.rxbuf.write s.rxCount b
          rxCount := s.rxCount + 1
          rfLen := s.rxCount + 1
          rfStatus := .ok
          st := .stopped }))))

/-- R103 to R106: the cycle rules of TRANSMIT, for every index inside the frame. -/
def Obligations.TransmissionCycleRules : Prop :=
  ∀ (i : CycleIn) (s : State), i.rst = false → ∃ u, u = beginCycle i s ∧
    (s.st = .txSettle →
      (s.timer = 0 → s.len = 0 → clockOn i s = .ok { u with idx := 0, csum := 0x00, drainRem := 0, st := .txDrain }) ∧
      (s.timer = 0 → 0 < s.len → clockOn i s = .ok { u with idx := 0, csum := 0x00, st := .txByte }) ∧
      (0 < s.timer → clockOn i s = .ok { u with timer := s.timer - 1 })) ∧
    (s.st = .txByte → s.idx < s.len → s.len ≤ s.cfg.txCapacity →
      (i.txReady = false → clockOn i s = .ok u) ∧
      (i.txReady = true → s.idx = s.len - 1 → clockOn i s = .ok (txWrite s.csum { u with
        txbuf := u.txbuf.write s.idx s.csum, timer := s.cfg.cInterbyte, st := .txGap })) ∧
      (i.txReady = true → s.idx ≠ s.len - 1 → clockOn i s = .ok (txWrite (s.txAt s.idx) { u with
        csum := s.csum + s.txAt s.idx, timer := s.cfg.cInterbyte, st := .txGap }))) ∧
    (s.st = .txGap → s.idx < s.len →
      (s.timer = 0 → s.idx = s.len - 1 → clockOn i s = .ok { u with drainRem := s.len, st := .txDrain }) ∧
      (s.timer = 0 → s.idx ≠ s.len - 1 → clockOn i s = .ok { u with idx := s.idx + 1, st := .txByte }) ∧
      (0 < s.timer → clockOn i s = .ok { u with timer := s.timer - 1 })) ∧
    (s.st = .txDrain →
      (0 < s.drainRem → u.rxQueue ≠ [] → clockOn i s = .ok { popRx u with drainRem := s.drainRem - 1 }) ∧
      (s.drainRem = 0 ∨ u.rxQueue = [] → clockOn i s = .ok { u with st := .top }))

/-! ## FrameCodec -/

/-- R72: SCAN is the comparison with `TERMINATOR`; the index does not take part; nothing but the model's result is written. -/
def Obligations.ScanIsTerminatorTest : Prop :=
  ∀ s : State, exec .scan s = .next { s with result := .scan (decide (s.args.byte = s.cfg.terminator)) }

/-- R73, R74: FINALIZE writes the unsigned sum of all bytes but the last, modulo 256, into the last slot and returns it; an
empty list has no slot and gives 0. Nothing else is written. That list and result stand in the state's fields (entry 10), and that
the list may be longer than `TX_CAPACITY` (entry 11), are the model's choices (DESIGN CHOICE). -/
def Obligations.FinalizeWritesSumModulo256 : Prop :=
  ∀ s : State,
    (s.args.buffer = [] → exec .finalize s = .next { s with result := .finalize 0x00 }) ∧
    (∀ (payload : List Byte) (last sum : Byte), s.args.buffer = payload ++ [last] →
      sum = BitVec.ofNat 8 ((payload.map BitVec.toNat).sum) →
      exec .finalize s = .next { s with
        args := { s.args with buffer := payload ++ [sum] }
        result := .finalize sum })

/-- R76, R78: a finalized list passes the receiver's test, and finalizing it again changes nothing. -/
def Obligations.FinalizeIsIdempotent : Prop :=
  ∀ s t : State, exec .finalize s = .next t →
    (s.args.buffer ≠ [] → checksFrame t.args.buffer = true) ∧ exec .finalize t = .next t

/-! ## START -/

/-- R118, R119: a START in `STOPPED` with the transport open enters the loop, Connected, without an event. -/
def Obligations.StartEntersLoop : Prop :=
  ∀ s : State, s.st = .stopped → s.thisInput.rst = false → s.thisInput.transportOk = true →
    ∃ t, exec .start s = .next t ∧
      t = { beginCycle s.thisInput s with sync := .connected, startFailed := false, st := .top } ∧
      t.events = s.events ∧ t.outs.syncEvent = false ∧ t.running = true

/-- R118, R141, R148: with the transport not open the loop is not entered; the failure is a status, not a fault. -/
def Obligations.StartReportsClosedTransport : Prop :=
  ∀ s : State, s.st = .stopped → s.thisInput.rst = false → s.thisInput.transportOk = false →
    exec .start s = .next { beginCycle s.thisInput s with startFailed := true }

/-- R120: in any state other than `STOPPED` a START writes nothing: the cycle is the one without the pulse. -/
def Obligations.StartIgnoredWhileBusy : Prop :=
  ∀ s : State, s.st ≠ .stopped → exec .start s = answer (clockOn { s.thisInput with start := false } s)

/-! ## AWAIT -/

/-- R80, R82 to R86, R123, R125, R126: a `SENTINEL` in the window and the module byte after it, whenever they come, are consumed
and returned; the loop reconnects and dispatches in the same cycle; what the line gave behind them stays queued. That AWAIT
presented in `TOP` starts with its own first cycle, without the `TOP` cycle and without reading `shutdown`, is the model's choice
(entry 12). -/
def Obligations.AwaitReturnsModule : Prop :=
  ∀ (s : State) (m : Byte) (rest : List Byte) (j k : Nat), s.st = .top → NoReset s → RequestHeard s 0 j k m rest →
    ∃ t, exec .await s = .next t ∧ t.rxQueue = rest ∧ t.modId = m ∧ t.lastResult = .moduleId ∧ t.lastModule = m ∧
      t.sync = .connected ∧ t.events = s.events ++ regainEvents s ∧
      t.st = (if m = s.cfg.eamId ∨ m = s.cfg.gpsId then .build else .top) ∧
      t.timer = s.cfg.cTimeout - j ∧ t.inputs = s.inputs.drop (k + 1) ∧ clocks (k + 1) (beginAwait s) = .ok t ∧
      KeepsFaultFlags s t ∧ KeepsTransmit s t ∧ KeepsReceive s t ∧ KeepsModel s t

/-- R80, R82, R83, R85, R124: any other first byte, in whichever cycle of the window it comes, is consumed alone and discarded;
the loop resyncs; what the line gave behind it stays queued. That AWAIT presented in `TOP` starts with its own first cycle, without
the `TOP` cycle and without reading `shutdown`, is the model's choice (entry 12). -/
def Obligations.AwaitReturnsInvalid : Prop :=
  ∀ (s : State) (b : Byte) (rest : List Byte) (j : Nat), s.st = .top → NoReset s → j ≤ s.cfg.cTimeout →
    (j = 0 ∨ heardBy j s = []) → heardBy (j + 1) s = b :: rest → b ≠ s.cfg.sentinel →
    ∃ t, exec .await s = .next t ∧ t.rxQueue = rest ∧ t.modId = s.modId ∧ t.lastResult = .invalid ∧
      t.lastModule = s.lastModule ∧ t.sync = .syncing ∧ t.events = s.events ++ loseEvents s ∧ t.st = .top ∧
      t.timer = s.cfg.cTimeout - j ∧ t.inputs = s.inputs.drop (j + 1) ∧ clocks (j + 1) (beginAwait s) = .ok t ∧
      KeepsFaultFlags s t ∧ KeepsTransmit s t ∧ KeepsReceive s t ∧ KeepsModel s t

/-- R85, R82, R124: with no byte in the window AWAIT returns Timeout after exactly `C_TIMEOUT + 1` cycles, consuming nothing.
That AWAIT presented in `TOP` starts with its own first cycle, without the `TOP` cycle and without reading `shutdown`, is the
model's choice (entry 12). -/
def Obligations.AwaitTimesOut : Prop :=
  ∀ s : State, s.st = .top → NoReset s → heardBy (s.cfg.cTimeout + 1) s = [] →
    ∃ t, exec .await s = .next t ∧ t.rxQueue = [] ∧ t.modId = s.modId ∧ t.lastResult = .timeout ∧
      t.lastModule = s.lastModule ∧ t.sync = .syncing ∧ t.events = s.events ++ loseEvents s ∧ t.st = .top ∧
      t.timer = 0 ∧ t.inputs = s.inputs.drop (s.cfg.cTimeout + 1) ∧
      clocks (s.cfg.cTimeout + 1) (beginAwait s) = .ok t ∧
      KeepsFaultFlags s t ∧ KeepsTransmit s t ∧ KeepsReceive s t ∧ KeepsModel s t

/-- R84, R86, R163: a lone `SENTINEL` followed by silence leaves the engine waiting for the module byte, with no timeout and
whatever `shutdown` says, for as long as the silence lasts. The model's choices are that `exec` answers the state in that wait once
the listed inputs are used up (entry 13), and that AWAIT presented in `TOP` skips the `TOP` cycle and its test of `shutdown`
(entry 12). -/
def Obligations.AwaitWaitsForModuleByte : Prop :=
  ∀ s : State, s.st = .top → NoReset s → SilentLine s → s.rxQueue = [s.cfg.sentinel] →
    (∃ t, exec .await s = .next t ∧ t.st = .reqId ∧ t.rxQueue = [] ∧ KeepsLoop s t ∧ t.inputs = []) ∧
    ∀ k, ∃ t, clocks (k + 1) (beginAwait s) = .ok t ∧ t.st = .reqId ∧ t.rxQueue = [] ∧ t.timer = s.cfg.cTimeout ∧
      t.events = s.events ∧ KeepsLoop s t ∧ KeepsFaultFlags s t ∧ KeepsTransmit s t ∧ KeepsReceive s t

/-! ## RECV_FRAME -/

/-- R88, R89, R92 to R97: with a first byte in the poll window and a frame that fits `rxbuf` among what the line has given by
some cycle, RECV_FRAME returns exactly its bytes, terminator and trailing byte included, first match first, whenever they come;
what the line gave behind them stays queued. -/
def Obligations.RecvFrameReturnsFrame : Prop :=
  ∀ (s : State) (p heard : Nat) (frame rest : List Byte), s.st = .stopped → NoReset s → s.thisInput.start = false →
    PollHears s p → splitFrame s.cfg (heardBy heard s) = some (frame, rest) → frame.length ≤ s.cfg.rxCapacity →
    ∃ t last, exec .recvFrame s = .next t ∧ t.st = .stopped ∧ t.rfStatus = .ok ∧ t.rfLen = frame.length ∧
      t.rxCount = frame.length ∧ t.rxFrame frame.length = frame ∧ heardBy (last + 1) s = frame ++ t.rxQueue ∧
      (∀ a, frame.length ≤ a → t.rxAt a = s.rxAt a) ∧ t.events = s.events ++ [.rfDone] ∧
      t.timer = s.cfg.cTimeout - p ∧ t.inputs = s.inputs.drop (last + 1) ∧
      (clockOn { s.thisInput with recvCmd := true } s).bind (clocks last) = .ok t ∧
      KeepsFaultFlags s t ∧ KeepsLoop s t ∧ KeepsTransmit s t ∧ KeepsModel s t

/-- R59, R77, R97: what `splitFrame` splits off is the bytes up to the first terminator and one more: `k + 2` bytes, `k` the
position of the first terminator. -/
def Obligations.FrameEndsAfterFirstTerminator : Prop :=
  ∀ (c : Config) (stream frame rest : List Byte),
    splitFrame c stream = some (frame, rest) ↔
      ∃ (body : List Byte) (x : Byte), (∀ b ∈ body, b ≠ c.terminator) ∧ frame = body ++ [c.terminator, x] ∧
        stream = frame ++ rest

/-- R89, R92, R138: with no byte in the window RECV_FRAME ends in Timeout, nothing consumed and nothing stored. -/
def Obligations.RecvFrameTimesOut : Prop :=
  ∀ s : State, s.st = .stopped → NoReset s → s.thisInput.start = false →
    heardBy (s.cfg.cRxSettle + s.cfg.cTimeout + 3) s = [] →
    ∃ t, exec .recvFrame s = .next t ∧ t.st = .stopped ∧ t.rfStatus = .timeout ∧ t.rfLen = 0 ∧ t.rxCount = s.rxCount ∧
      t.rxQueue = [] ∧ (∀ a, t.rxAt a = s.rxAt a) ∧ t.events = s.events ++ [.rfDone] ∧ t.timer = 0 ∧
      t.inputs = s.inputs.drop (s.cfg.cRxSettle + s.cfg.cTimeout + 3) ∧
      (clockOn { s.thisInput with recvCmd := true } s).bind (clocks (s.cfg.cRxSettle + s.cfg.cTimeout + 2)) = .ok t ∧
      KeepsFaultFlags s t ∧ KeepsLoop s t ∧ KeepsTransmit s t ∧ KeepsModel s t

/-- R95, R142, R89, R98: with a first byte in the poll window, more bytes given by some cycle than `rxbuf` holds and no frame among
them that fits: the first `RX_CAPACITY` bytes are stored, whenever they come, the next ones stay queued, `RX_OVERRUN` is raised,
and no `rf_*` register is written. -/
def Obligations.RecvFrameOverruns : Prop :=
  ∀ (s : State) (p heard : Nat), s.st = .stopped → NoReset s → s.thisInput.start = false → PollHears s p →
    s.cfg.rxCapacity < (heardBy heard s).length →
    (∀ frame rest, splitFrame s.cfg (heardBy heard s) = some (frame, rest) → s.cfg.rxCapacity < frame.length) →
    ∃ t last, exec .recvFrame s = .next t ∧ t.st = .fault ∧ t.fault = true ∧ t.faultCode = .rxOverrun ∧
      t.rxCount = s.cfg.rxCapacity ∧ t.rxFrame s.cfg.rxCapacity = (heardBy heard s).take s.cfg.rxCapacity ∧
      t.rxQueue = (heardBy (last + 1) s).drop s.cfg.rxCapacity ∧ t.rxQueue ≠ [] ∧
      (∀ a, s.cfg.rxCapacity ≤ a → t.rxAt a = s.rxAt a) ∧
      t.rfStatus = s.rfStatus ∧ t.rfLen = s.rfLen ∧ t.events = s.events ∧ t.startFailed = s.startFailed ∧
      t.timer = s.cfg.cTimeout - p ∧ t.inputs = s.inputs.drop (last + 1) ∧
      (clockOn { s.thisInput with recvCmd := true } s).bind (clocks last) = .ok t ∧
      KeepsLoop s t ∧ KeepsTransmit s t ∧ KeepsModel s t

/-- R90, R147: `start` wins over `recv_cmd`, and in every state but `STOPPED` a `recv_cmd` pulse changes nothing of its
cycle. -/
def Obligations.RecvCmdCountsOnlyInStopped : Prop :=
  ∀ (i : CycleIn) (s : State), s.st ≠ .stopped ∨ i.start = true →
    clockOn { i with recvCmd := true } s = clockOn { i with recvCmd := false } s

/-! ## TRANSMIT -/

/-- R99, R100, R101, R104, R109, R74: TRANSMIT of `n >= 1` bytes from `BUILD`, a builder write in that cycle included (R49), sends
`txbuf[0 .. n-2]` and then their sum modulo 256, and leaves the sent frame in `txbuf`; every other byte of `txbuf` and every other
kind of state is left alone. The transport may hold `tx_ready = 0` in any listed cycle (R160). -/
def Obligations.TransmitSendsFrame : Prop :=
  ∀ (s built : State) (n : Nat) (sum : Byte), s.st = .build → NoReset s → s.held.txReady = true →
    WritesInside s.thisInput s → built = buildWrite s.thisInput s →
    transmitLength s = n → 1 ≤ n → n ≤ s.cfg.txCapacity →
    sum = BitVec.ofNat 8 (((built.txFrame (n - 1)).map BitVec.toNat).sum) →
    ∃ t, exec .transmit s = .next t ∧ t.st = .top ∧ t.txStream = s.txStream ++ (built.txFrame (n - 1) ++ [sum]) ∧
      t.txFrame n = built.txFrame (n - 1) ++ [sum] ∧ (∀ a, a + 1 ≠ n → t.txAt a = built.txAt a) ∧
      t.len = n ∧ t.idx + 1 = n ∧ t.csum = sum ∧ t.events = s.events ∧
      KeepsFaultFlags s t ∧ KeepsLoop s t ∧ KeepsReceive s t ∧ KeepsModel s t

/-- R33, R106, R111, R50: whatever the line gives during the frame and however long the transport stalls, the drain pops bytes
from the head of the RX queue, at most `n`, and stops short only with the queue empty. With the echo on (entry 8), what is queued
is the queue, the line's bytes and the echo, the last two each in order, and `n` bytes are popped. -/
def Obligations.TransmitDrainsAtMostLength : Prop :=
  ∀ (s : State) (n : Nat), s.st = .build → NoReset s → s.held.txReady = true → WritesInside s.thisInput s →
    transmitLength s = n → 1 ≤ n → n ≤ s.cfg.txCapacity →
    ∃ t last popped given, exec .transmit s = .next t ∧ t.inputs = s.inputs.drop (last + 1) ∧
      (clockOn { s.thisInput with bldDone := true, bldLen := n } s).bind (clocks last) = .ok t ∧
      s.rxQueue ++ given = popped ++ t.rxQueue ∧ popped.length + t.drainRem = n ∧
      (t.drainRem = 0 ∨ t.rxQueue = []) ∧
      (s.echo = false → given = lineBytes (last + 1) s) ∧
      (s.echo = true → t.drainRem = 0 ∧ (lineBytes (last + 1) s).Sublist given ∧
        (t.txStream.drop s.txStream.length).Sublist given ∧
        given.Perm (lineBytes (last + 1) s ++ t.txStream.drop s.txStream.length))

/-- R108: TRANSMIT of 0 bytes writes nothing and drains nothing; the settling delay still elapses. A builder write in its first
cycle is applied (R49); bytes the line gives stay queued. -/
def Obligations.TransmitOfNothing : Prop :=
  ∀ s : State, s.st = .build → NoReset s → WritesInside s.thisInput s → transmitLength s = 0 →
    ∃ t, exec .transmit s = .next t ∧ t.st = .top ∧ t.txStream = s.txStream ∧
      t.rxQueue = heardBy (s.cfg.cPostRecv + 3) s ∧ t.events = s.events ∧
      (∀ a, t.txAt a = (buildWrite s.thisInput s).txAt a) ∧ t.len = 0 ∧ t.drainRem = 0 ∧
      t.inputs = s.inputs.drop (s.cfg.cPostRecv + 3) ∧
      (clockOn { s.thisInput with bldDone := true, bldLen := 0 } s).bind (clocks (s.cfg.cPostRecv + 2)) = .ok t ∧
      KeepsFaultFlags s t ∧ KeepsLoop s t ∧ KeepsReceive s t ∧ KeepsModel s t

/-- R127, R143, R149: a TRANSMIT longer than `txbuf` is stopped in `BUILD` by `TX_LENGTH`, with no other effect: a builder write
of that cycle is not applied. -/
def Obligations.TransmitTooLongFaults : Prop :=
  ∀ s : State, s.st = .build → s.thisInput.rst = false → WritesInside s.thisInput s →
    s.cfg.txCapacity < transmitLength s →
    exec .transmit s =
      .next { beginCycle s.thisInput s with fault := true, faultCode := .txLength, st := .fault }

/-- R107, R102: from TRANSMIT's entry, with the transport ready throughout, byte `j` (0-based) is written in the cycle
`C_POST_RECV + 2 + j * (C_INTERBYTE + 2)` after the entry cycle and not before. -/
def Obligations.ByteTimesOfAFrame : Prop :=
  ∀ (s : State) (n j : Nat), NoReset s → ReadyTransport s → 1 ≤ n → n ≤ s.cfg.txCapacity → j < n →
    ∃ before at_, clocks (s.cfg.cPostRecv + 1 + j * (s.cfg.cInterbyte + 2)) (beginTransmit n s) = .ok before ∧
      clock before = .ok at_ ∧
      before.st = .txByte ∧ before.txStream.length = s.txStream.length + j ∧
      at_.txStream.length = s.txStream.length + j + 1 ∧ at_.outs.txWrite = true

/-! ## ITERATE -/

/-- R121, R135: at `TOP` with `shutdown = 1` the iteration is the loop's exit: `st` alone is written. -/
def Obligations.IterateExitsOnShutdown : Prop :=
  ∀ s : State, s.st = .top → s.thisInput.rst = false → s.thisInput.shutdown = true →
    exec .iterate s = .next { beginCycle s.thisInput s with st := .stopped }

/-- R132, R115, R145: an iteration on a silent line takes `C_TIMEOUT + 2` cycles, resyncs and sends nothing; the event is pulsed
only where the engine was Connected. -/
def Obligations.IterateResyncsOnSilence : Prop :=
  ∀ s : State, s.st = .top → NoReset s → s.thisInput.shutdown = false → heardBy (s.cfg.cTimeout + 2) s = [] →
    ∃ t, exec .iterate s = .next t ∧ t.st = .top ∧ t.lastResult = .timeout ∧ t.lastModule = s.lastModule ∧
      t.modId = s.modId ∧ t.sync = .syncing ∧ t.events = s.events ++ loseEvents s ∧ t.rxQueue = [] ∧
      t.inputs = s.inputs.drop (s.cfg.cTimeout + 2) ∧ clocks (s.cfg.cTimeout + 2) s = .ok t ∧
      KeepsFaultFlags s t ∧ KeepsTransmit s t ∧ KeepsReceive s t ∧ KeepsModel s t

/-- R115, R128, R129, R133, R160, R188: a whole iteration for a supported module: with a request that comes in the window, a
builder that does its duty from the first `BUILD` cycle on (the cycle after the one that reads the module byte), writing what it
likes in the rest of `txbuf`, and a transport that may stall in any listed cycle, exactly one frame of the module's length is
sent, its last byte the checksum, and the loop is back at `TOP`, Connected. -/
def Obligations.IterateAnswersPoll : Prop :=
  ∀ (s : State) (m : Byte) (n j k : Nat) (rest : List Byte) (waits answers later : List CycleIn),
    s.cfg.ok = true → s.st = .top → (m = s.cfg.eamId ∧ n = s.cfg.lenEam ∨ m = s.cfg.gpsId ∧ n = s.cfg.lenGps) →
    NoReset s → s.held.txReady = true → s.thisInput.shutdown = false → RequestHeard s 1 j k m rest →
    s.inputs = waits ++ (answers ++ later) → waits.length = k + 2 → BuilderDuty s.cfg.txCapacity n answers →
    ∃ t, exec .iterate s = .next t ∧ t.st = .top ∧ t.txStream = s.txStream ++ respFrame (payloadOf n answers) ∧
      (payloadOf n answers).length + 1 = n ∧ t.txFrame n = respFrame (payloadOf n answers) ∧
      (∀ a, n ≤ a → t.txAt a = builtAt s answers a) ∧ t.lastResult = .moduleId ∧ t.lastModule = m ∧ t.modId = m ∧
      t.sync = .connected ∧ t.events = s.events ++ regainEvents s ∧ t.len = n ∧
      KeepsFaultFlags s t ∧ KeepsReceive s t ∧ KeepsModel s t

/-! ## Request classes -/

/-- R128, R125, R126, R133, R160: a decoded EAM request, with a builder that does its duty from the first `BUILD` cycle on,
writing what it likes in the rest of `txbuf`, and a transport that may stall in any listed cycle: exactly `LEN_EAM` bytes are
sent, the last the checksum, and the loop is back at `TOP`, Connected. That `exec` of the class begins in `REQ_ID` with the module
byte already read, whatever the queue holds, is the model's choice (entry 14). -/
def Obligations.ReqEamSendsOneFrame : Prop :=
  ∀ (s : State) (n : Nat) (answers later : List CycleIn), s.cfg.ok = true → s.st = .reqId → n = s.cfg.lenEam →
    NoReset s → s.held.txReady = true → s.inputs = answers ++ later → BuilderDuty s.cfg.txCapacity n answers →
    ∃ t, exec .reqEam s = .next t ∧ t.st = .top ∧ t.txStream = s.txStream ++ respFrame (payloadOf n answers) ∧
      (payloadOf n answers).length + 1 = n ∧ t.txFrame n = respFrame (payloadOf n answers) ∧
      (∀ a, n ≤ a → t.txAt a = builtAt s answers a) ∧ t.lastResult = .moduleId ∧ t.lastModule = s.cfg.eamId ∧
      t.modId = s.cfg.eamId ∧ t.sync = .connected ∧ t.events = s.events ++ regainEvents s ∧ t.len = n ∧
      KeepsFaultFlags s t ∧ KeepsReceive s t ∧ KeepsModel s t

/-- R129, R125, R126, R133, R160: a decoded GPS request, with a builder that does its duty from the first `BUILD` cycle on,
writing what it likes in the rest of `txbuf`, and a transport that may stall in any listed cycle: exactly `LEN_GPS` bytes are
sent, the last the checksum, and the loop is back at `TOP`, Connected. That `exec` of the class begins in `REQ_ID` with the module
byte already read, whatever the queue holds, is the model's choice (entry 14). -/
def Obligations.ReqGpsSendsOneFrame : Prop :=
  ∀ (s : State) (n : Nat) (answers later : List CycleIn), s.cfg.ok = true → s.st = .reqId → n = s.cfg.lenGps →
    NoReset s → s.held.txReady = true → s.inputs = answers ++ later → BuilderDuty s.cfg.txCapacity n answers →
    ∃ t, exec .reqGps s = .next t ∧ t.st = .top ∧ t.txStream = s.txStream ++ respFrame (payloadOf n answers) ∧
      (payloadOf n answers).length + 1 = n ∧ t.txFrame n = respFrame (payloadOf n answers) ∧
      (∀ a, n ≤ a → t.txAt a = builtAt s answers a) ∧ t.lastResult = .moduleId ∧ t.lastModule = s.cfg.gpsId ∧
      t.modId = s.cfg.gpsId ∧ t.sync = .connected ∧ t.events = s.events ++ regainEvents s ∧ t.len = n ∧
      KeepsFaultFlags s t ∧ KeepsReceive s t ∧ KeepsModel s t

/-- R130, R125, R126, R116: a decoded request for any other module reconnects and is skipped: no build, no byte sent, no drain.
That `exec` of the class takes no cycle and no byte is the model's choice (entry 14): the two bytes R130 counts are consumed by the
cycles that read them, which `step` takes before it. -/
def Obligations.ReqUnknownIsSkipped : Prop :=
  ∀ (s : State) (m : Byte), s.st = .reqId → ∃ t, exec (.reqUnknown m) s = .next t ∧ t.st = .top ∧
    t.lastResult = .moduleId ∧ t.lastModule = m ∧ t.modId = m ∧ t.sync = .connected ∧
    t.events = s.events ++ regainEvents s ∧ t.rxQueue = s.rxQueue ∧ t.timer = s.timer ∧ t.inputs = s.inputs ∧
    t.outs.syncEvent = (s.outs.syncEvent || decide (s.sync = .syncing)) ∧
    KeepsFaultFlags s t ∧ KeepsTransmit s t ∧ KeepsReceive s t ∧ KeepsModel s t

/-- R131, R124, R116: an invalid mode byte resyncs the loop: no build, no byte sent. That `exec` of the class takes no cycle and no
byte is the model's choice (entry 14): the one byte R131 counts is consumed by the cycle that reads it, which `step` takes before
it. -/
def Obligations.ReqInvalidResyncs : Prop :=
  ∀ (s : State) (b : Byte), s.st = .reqWait → ∃ t, exec (.reqInvalid b) s = .next t ∧ t.st = .top ∧
    t.lastResult = .invalid ∧ t.lastModule = s.lastModule ∧ t.modId = s.modId ∧ t.sync = .syncing ∧
    t.events = s.events ++ loseEvents s ∧ t.rxQueue = s.rxQueue ∧ t.timer = s.timer ∧ t.inputs = s.inputs ∧
    t.outs.syncEvent = (s.outs.syncEvent || decide (s.sync = .connected)) ∧
    KeepsFaultFlags s t ∧ KeepsTransmit s t ∧ KeepsReceive s t ∧ KeepsModel s t

/-! ## Where an instruction is not invoked -/

/-- The MODEL's choice (entries 12 and 14, DESIGN CHOICE): an operation presented where the spec does not invoke it, and a
request class where no request is decoded, is ignored: one clock cycle of the current state's own rule passes. -/
def Obligations.IgnoredWhereNotInvoked : Prop :=
  ∀ s : State,
    (s.st ≠ .top → isAwait s.st = false → exec .await s = answer (clock s)) ∧
    (s.st ≠ .stopped → isRecv s.st = false → exec .recvFrame s = answer (clock s)) ∧
    (s.st ≠ .build → isTransmit s.st = false → exec .transmit s = answer (clock s)) ∧
    (s.st ≠ .top → inIteration s.st = false → exec .iterate s = answer (clock s)) ∧
    (s.st ≠ .stopped → exec .start s = answer (clock s)) ∧
    (s.st ≠ .reqId → exec .reqEam s = answer (clock s) ∧ exec .reqGps s = answer (clock s) ∧
      ∀ m, exec (.reqUnknown m) s = answer (clock s)) ∧
    (s.st ≠ .reqWait → ∀ b, exec (.reqInvalid b) s = answer (clock s))

/-! ## Bounded operations -/

/-- R163, R165: an operation that the model stops running has come to its end, or every listed input is used up and it stands
in a wait without a time limit whose input does not come (entry 13). -/
def Obligations.OperationsEndOrWait : Prop :=
  ∀ s t : State, Inv s →
    (exec .await s = .next t → isAwait t.st = true → t.inputs = [] ∧ waitingIn t.held t = true) ∧
    (exec .recvFrame s = .next t → isRecv t.st = true → t.inputs = [] ∧ waitingIn t.held t = true) ∧
    (exec .transmit s = .next t → isTransmit t.st = true → t.inputs = [] ∧ waitingIn t.held t = true) ∧
    (exec .iterate s = .next t → inIteration t.st = true → t.inputs = [] ∧ waitingIn t.held t = true) ∧
    (exec .reqEam s = .next t → s.st = .reqId → isServing t.st = true → t.inputs = [] ∧ waitingIn t.held t = true) ∧
    (exec .reqGps s = .next t → s.st = .reqId → isServing t.st = true → t.inputs = [] ∧ waitingIn t.held t = true)

/-- R186: from `TOP` or `REQ_WAIT` with no byte for `C_TIMEOUT + 2` cycles, a `shutdown` that stays up stops the loop within
`C_TIMEOUT + 2` cycles. -/
def Obligations.ShutdownLatencyOnSilence : Prop :=
  ∀ s : State, s.st = .top ∨ s.st = .reqWait → s.timer ≤ s.cfg.cTimeout → NoReset s →
    heardBy (s.cfg.cTimeout + 2) s = [] → allInputs (fun i => i.shutdown = true) s →
    ∃ k t, k ≤ s.cfg.cTimeout + 2 ∧ clocks k s = .ok t ∧ t.st = .stopped ∧ t.running = false ∧
      KeepsFaultFlags s t ∧ KeepsTransmit s t ∧ KeepsReceive s t
end

