-- ==== Sys2Proof/Laws/Memory.lean ====
section
/-! SUPPORT. The laws of the buffers: a read after a write, and the canonical form. -/

namespace Sys2Proof.Machine

/-- A read of the index written gives the byte written. -/
@[simp] theorem read_write_same (m : Memory) (a : Nat) (b : Byte) : (m.write a b).read? a = some b := by
  induction m with
  | nil => simp [Memory.write, Memory.read?]
  | cons cell rest ih =>
    obtain ⟨k, x⟩ := cell
    unfold Memory.write
    split
    · simp [Memory.read?]
    · split
      · simp [Memory.read?]
      · rename_i h1 h2
        simp only [Memory.read?, ih, ite_eq_right_iff]
        exact fun h => absurd h.symm h2

/-- A write leaves every other index alone. -/
theorem read_write_ne (m : Memory) {a c : Nat} (b : Byte) (h : c ≠ a) : (m.write a b).read? c = m.read? c := by
  induction m with
  | nil => simp [Memory.write, Memory.read?, h.symm]
  | cons cell rest ih =>
    obtain ⟨k, x⟩ := cell
    unfold Memory.write
    split
    · simp [Memory.read?, h.symm]
    · split
      · rename_i _ h2
        subst h2
        simp [Memory.read?, h.symm]
      · simp [Memory.read?, ih]

/-- A write lists no index but the old ones and its own. -/
theorem mem_write {m : Memory} {a : Nat} {b : Byte} {cell : Host.Cell} (h : cell ∈ m.write a b) :
    cell ∈ m ∨ cell = (a, b) := by
  induction m with
  | nil => simpa [Memory.write] using h
  | cons head rest ih =>
    obtain ⟨k, x⟩ := head
    unfold Memory.write at h
    split at h
    · simp only [List.mem_cons] at h ⊢
      tauto
    · split at h
      · simp only [List.mem_cons] at h ⊢
        tauto
      · simp only [List.mem_cons] at h ⊢
        rcases h with h | h
        · tauto
        · rcases ih h with h | h <;> tauto

/-- The canonical form, head by head: every later index is larger. -/
theorem wf_cons {cell : Host.Cell} {m : Memory} :
    Memory.wf (cell :: m) = true ↔ Memory.wf m = true ∧ ∀ c ∈ m, cell.1 < c.1 := by
  induction m generalizing cell with
  | nil => simp [Memory.wf]
  | cons head rest ih =>
    simp only [Memory.wf, Bool.and_eq_true, decide_eq_true_eq, List.mem_cons, forall_eq_or_imp]
    constructor
    · rintro ⟨h1, h2⟩
      exact ⟨h2, h1, fun c hc => lt_trans h1 ((ih.mp h2).2 c hc)⟩
    · rintro ⟨h1, h2, -⟩
      exact ⟨h2, h1⟩

/-- A write keeps the canonical form. -/
theorem write_wf {m : Memory} (h : m.wf = true) (a : Nat) (b : Byte) : (m.write a b).wf = true := by
  induction m with
  | nil => simp [Memory.write, Memory.wf]
  | cons head rest ih =>
    obtain ⟨k, x⟩ := head
    obtain ⟨hrest, hlt⟩ := wf_cons.mp h
    unfold Memory.write
    split
    · rename_i hak
      refine wf_cons.mpr ⟨h, ?_⟩
      intro c hc
      rcases List.mem_cons.mp hc with rfl | hc
      · exact hak
      · exact lt_trans hak (hlt c hc)
    · split
      · rename_i _ hak
        subst hak
        exact wf_cons.mpr ⟨hrest, hlt⟩
      · rename_i h1 h2
        refine wf_cons.mpr ⟨ih hrest, ?_⟩
        intro c hc
        rcases mem_write hc with hc | rfl
        · exact hlt c hc
        · exact show k < a by omega

/-- A write inside the capacity keeps a buffer a buffer. -/
theorem fits_write {m : Memory} {capacity a : Nat} (h : m.fits capacity) (ha : a < capacity) (b : Byte) :
    (m.write a b).fits capacity := by
  refine ⟨write_wf h.1 a b, ?_⟩
  intro cell hc
  rcases mem_write hc with hc | rfl
  · exact h.2 cell hc
  · exact ha

/-- The empty buffer is one of any capacity. -/
theorem fits_nil (capacity : Nat) : Memory.fits [] capacity := ⟨rfl, by simp⟩

/-- The reset state's buffers are in canonical form. -/
theorem reset_buffers_wf : State.reset.txbuf.wf = true ∧ State.reset.rxbuf.wf = true := ⟨rfl, rfl⟩

/-- All that `bufWriteTx` can do. -/
theorem bufWriteTx_cases {i : Nat} {b : Byte} {s t : State} (h : bufWriteTx i b s = .ok t) :
    i < s.cfg.txCapacity ∧ t = { s with txbuf := s.txbuf.write i b } := by
  unfold bufWriteTx at h
  split at h
  · exact ⟨‹_›, by injection h with h; exact h.symm⟩
  · cases h

/-- All that `bufWriteRx` can do. -/
theorem bufWriteRx_cases {i : Nat} {b : Byte} {s t : State} (h : bufWriteRx i b s = .ok t) :
    i < s.cfg.rxCapacity ∧ t = { s with rxbuf := s.rxbuf.write i b } := by
  unfold bufWriteRx at h
  split at h
  · exact ⟨‹_›, by injection h with h; exact h.symm⟩
  · cases h

/-- All that `bufReadTx` can do. -/
theorem bufReadTx_cases {i : Nat} {s : State} {v : Byte} (h : bufReadTx i s = .ok v) :
    i < s.cfg.txCapacity ∧ v = s.txAt i := by
  unfold bufReadTx at h
  split at h
  · exact ⟨‹_›, by injection h with h; exact h.symm⟩
  · cases h

end Sys2Proof.Machine
end

