-- ==== Sys2Proof/Laws/State.lean ====
section
/-! SUPPORT. What each named update of the state does to each field: written fields first, then the fields it leaves alone. -/

namespace Sys2Proof.Machine

/-! `popRx` -/

@[simp] theorem popRx_rxQueue (s : State) : (popRx s).rxQueue = s.rxQueue.tail := rfl
@[simp] theorem popRx_outs (s : State) : (popRx s).outs = { s.outs with rxPop := true } := rfl
@[simp] theorem popRx_cfg (s : State) : (popRx s).cfg = s.cfg := rfl
@[simp] theorem popRx_st (s : State) : (popRx s).st = s.st := rfl
@[simp] theorem popRx_timer (s : State) : (popRx s).timer = s.timer := rfl
@[simp] theorem popRx_idx (s : State) : (popRx s).idx = s.idx := rfl
@[simp] theorem popRx_len (s : State) : (popRx s).len = s.len := rfl
@[simp] theorem popRx_csum (s : State) : (popRx s).csum = s.csum := rfl
@[simp] theorem popRx_modId (s : State) : (popRx s).modId = s.modId := rfl
@[simp] theorem popRx_drainRem (s : State) : (popRx s).drainRem = s.drainRem := rfl
@[simp] theorem popRx_rxCount (s : State) : (popRx s).rxCount = s.rxCount := rfl
@[simp] theorem popRx_sync (s : State) : (popRx s).sync = s.sync := rfl
@[simp] theorem popRx_fault (s : State) : (popRx s).fault = s.fault := rfl
@[simp] theorem popRx_faultCode (s : State) : (popRx s).faultCode = s.faultCode := rfl
@[simp] theorem popRx_startFailed (s : State) : (popRx s).startFailed = s.startFailed := rfl
@[simp] theorem popRx_lastResult (s : State) : (popRx s).lastResult = s.lastResult := rfl
@[simp] theorem popRx_lastModule (s : State) : (popRx s).lastModule = s.lastModule := rfl
@[simp] theorem popRx_rfStatus (s : State) : (popRx s).rfStatus = s.rfStatus := rfl
@[simp] theorem popRx_rfLen (s : State) : (popRx s).rfLen = s.rfLen := rfl
@[simp] theorem popRx_txbuf (s : State) : (popRx s).txbuf = s.txbuf := rfl
@[simp] theorem popRx_rxbuf (s : State) : (popRx s).rxbuf = s.rxbuf := rfl
@[simp] theorem popRx_txStream (s : State) : (popRx s).txStream = s.txStream := rfl
@[simp] theorem popRx_echo (s : State) : (popRx s).echo = s.echo := rfl
@[simp] theorem popRx_inputs (s : State) : (popRx s).inputs = s.inputs := rfl
@[simp] theorem popRx_held (s : State) : (popRx s).held = s.held := rfl
@[simp] theorem popRx_events (s : State) : (popRx s).events = s.events := rfl
@[simp] theorem popRx_opWord (s : State) : (popRx s).opWord = s.opWord := rfl
@[simp] theorem popRx_args (s : State) : (popRx s).args = s.args := rfl
@[simp] theorem popRx_result (s : State) : (popRx s).result = s.result := rfl

/-! `txWrite` -/

@[simp] theorem txWrite_txStream (v : Byte) (s : State) : (txWrite v s).txStream = s.txStream ++ [v] := rfl
@[simp] theorem txWrite_rxQueue (v : Byte) (s : State) : (txWrite v s).rxQueue = if s.echo then s.rxQueue ++ [v] else s.rxQueue := rfl
@[simp] theorem txWrite_outs (v : Byte) (s : State) : (txWrite v s).outs = { s.outs with txWrite := true, txData := v } := rfl
@[simp] theorem txWrite_cfg (v : Byte) (s : State) : (txWrite v s).cfg = s.cfg := rfl
@[simp] theorem txWrite_st (v : Byte) (s : State) : (txWrite v s).st = s.st := rfl
@[simp] theorem txWrite_timer (v : Byte) (s : State) : (txWrite v s).timer = s.timer := rfl
@[simp] theorem txWrite_idx (v : Byte) (s : State) : (txWrite v s).idx = s.idx := rfl
@[simp] theorem txWrite_len (v : Byte) (s : State) : (txWrite v s).len = s.len := rfl
@[simp] theorem txWrite_csum (v : Byte) (s : State) : (txWrite v s).csum = s.csum := rfl
@[simp] theorem txWrite_modId (v : Byte) (s : State) : (txWrite v s).modId = s.modId := rfl
@[simp] theorem txWrite_drainRem (v : Byte) (s : State) : (txWrite v s).drainRem = s.drainRem := rfl
@[simp] theorem txWrite_rxCount (v : Byte) (s : State) : (txWrite v s).rxCount = s.rxCount := rfl
@[simp] theorem txWrite_sync (v : Byte) (s : State) : (txWrite v s).sync = s.sync := rfl
@[simp] theorem txWrite_fault (v : Byte) (s : State) : (txWrite v s).fault = s.fault := rfl
@[simp] theorem txWrite_faultCode (v : Byte) (s : State) : (txWrite v s).faultCode = s.faultCode := rfl
@[simp] theorem txWrite_startFailed (v : Byte) (s : State) : (txWrite v s).startFailed = s.startFailed := rfl
@[simp] theorem txWrite_lastResult (v : Byte) (s : State) : (txWrite v s).lastResult = s.lastResult := rfl
@[simp] theorem txWrite_lastModule (v : Byte) (s : State) : (txWrite v s).lastModule = s.lastModule := rfl
@[simp] theorem txWrite_rfStatus (v : Byte) (s : State) : (txWrite v s).rfStatus = s.rfStatus := rfl
@[simp] theorem txWrite_rfLen (v : Byte) (s : State) : (txWrite v s).rfLen = s.rfLen := rfl
@[simp] theorem txWrite_txbuf (v : Byte) (s : State) : (txWrite v s).txbuf = s.txbuf := rfl
@[simp] theorem txWrite_rxbuf (v : Byte) (s : State) : (txWrite v s).rxbuf = s.rxbuf := rfl
@[simp] theorem txWrite_echo (v : Byte) (s : State) : (txWrite v s).echo = s.echo := rfl
@[simp] theorem txWrite_inputs (v : Byte) (s : State) : (txWrite v s).inputs = s.inputs := rfl
@[simp] theorem txWrite_held (v : Byte) (s : State) : (txWrite v s).held = s.held := rfl
@[simp] theorem txWrite_events (v : Byte) (s : State) : (txWrite v s).events = s.events := rfl
@[simp] theorem txWrite_opWord (v : Byte) (s : State) : (txWrite v s).opWord = s.opWord := rfl
@[simp] theorem txWrite_args (v : Byte) (s : State) : (txWrite v s).args = s.args := rfl
@[simp] theorem txWrite_result (v : Byte) (s : State) : (txWrite v s).result = s.result := rfl

/-! `pulseSync` -/

@[simp] theorem pulseSync_events (s : State) : (pulseSync s).events = s.events ++ [.sync] := rfl
@[simp] theorem pulseSync_outs (s : State) : (pulseSync s).outs = { s.outs with syncEvent := true } := rfl
@[simp] theorem pulseSync_cfg (s : State) : (pulseSync s).cfg = s.cfg := rfl
@[simp] theorem pulseSync_st (s : State) : (pulseSync s).st = s.st := rfl
@[simp] theorem pulseSync_timer (s : State) : (pulseSync s).timer = s.timer := rfl
@[simp] theorem pulseSync_idx (s : State) : (pulseSync s).idx = s.idx := rfl
@[simp] theorem pulseSync_len (s : State) : (pulseSync s).len = s.len := rfl
@[simp] theorem pulseSync_csum (s : State) : (pulseSync s).csum = s.csum := rfl
@[simp] theorem pulseSync_modId (s : State) : (pulseSync s).modId = s.modId := rfl
@[simp] theorem pulseSync_drainRem (s : State) : (pulseSync s).drainRem = s.drainRem := rfl
@[simp] theorem pulseSync_rxCount (s : State) : (pulseSync s).rxCount = s.rxCount := rfl
@[simp] theorem pulseSync_sync (s : State) : (pulseSync s).sync = s.sync := rfl
@[simp] theorem pulseSync_fault (s : State) : (pulseSync s).fault = s.fault := rfl
@[simp] theorem pulseSync_faultCode (s : State) : (pulseSync s).faultCode = s.faultCode := rfl
@[simp] theorem pulseSync_startFailed (s : State) : (pulseSync s).startFailed = s.startFailed := rfl
@[simp] theorem pulseSync_lastResult (s : State) : (pulseSync s).lastResult = s.lastResult := rfl
@[simp] theorem pulseSync_lastModule (s : State) : (pulseSync s).lastModule = s.lastModule := rfl
@[simp] theorem pulseSync_rfStatus (s : State) : (pulseSync s).rfStatus = s.rfStatus := rfl
@[simp] theorem pulseSync_rfLen (s : State) : (pulseSync s).rfLen = s.rfLen := rfl
@[simp] theorem pulseSync_txbuf (s : State) : (pulseSync s).txbuf = s.txbuf := rfl
@[simp] theorem pulseSync_rxbuf (s : State) : (pulseSync s).rxbuf = s.rxbuf := rfl
@[simp] theorem pulseSync_rxQueue (s : State) : (pulseSync s).rxQueue = s.rxQueue := rfl
@[simp] theorem pulseSync_txStream (s : State) : (pulseSync s).txStream = s.txStream := rfl
@[simp] theorem pulseSync_echo (s : State) : (pulseSync s).echo = s.echo := rfl
@[simp] theorem pulseSync_inputs (s : State) : (pulseSync s).inputs = s.inputs := rfl
@[simp] theorem pulseSync_held (s : State) : (pulseSync s).held = s.held := rfl
@[simp] theorem pulseSync_opWord (s : State) : (pulseSync s).opWord = s.opWord := rfl
@[simp] theorem pulseSync_args (s : State) : (pulseSync s).args = s.args := rfl
@[simp] theorem pulseSync_result (s : State) : (pulseSync s).result = s.result := rfl

/-! `pulseRfDone` -/

@[simp] theorem pulseRfDone_events (s : State) : (pulseRfDone s).events = s.events ++ [.rfDone] := rfl
@[simp] theorem pulseRfDone_outs (s : State) : (pulseRfDone s).outs = { s.outs with rfDone := true } := rfl
@[simp] theorem pulseRfDone_cfg (s : State) : (pulseRfDone s).cfg = s.cfg := rfl
@[simp] theorem pulseRfDone_st (s : State) : (pulseRfDone s).st = s.st := rfl
@[simp] theorem pulseRfDone_timer (s : State) : (pulseRfDone s).timer = s.timer := rfl
@[simp] theorem pulseRfDone_idx (s : State) : (pulseRfDone s).idx = s.idx := rfl
@[simp] theorem pulseRfDone_len (s : State) : (pulseRfDone s).len = s.len := rfl
@[simp] theorem pulseRfDone_csum (s : State) : (pulseRfDone s).csum = s.csum := rfl
@[simp] theorem pulseRfDone_modId (s : State) : (pulseRfDone s).modId = s.modId := rfl
@[simp] theorem pulseRfDone_drainRem (s : State) : (pulseRfDone s).drainRem = s.drainRem := rfl
@[simp] theorem pulseRfDone_rxCount (s : State) : (pulseRfDone s).rxCount = s.rxCount := rfl
@[simp] theorem pulseRfDone_sync (s : State) : (pulseRfDone s).sync = s.sync := rfl
@[simp] theorem pulseRfDone_fault (s : State) : (pulseRfDone s).fault = s.fault := rfl
@[simp] theorem pulseRfDone_faultCode (s : State) : (pulseRfDone s).faultCode = s.faultCode := rfl
@[simp] theorem pulseRfDone_startFailed (s : State) : (pulseRfDone s).startFailed = s.startFailed := rfl
@[simp] theorem pulseRfDone_lastResult (s : State) : (pulseRfDone s).lastResult = s.lastResult := rfl
@[simp] theorem pulseRfDone_lastModule (s : State) : (pulseRfDone s).lastModule = s.lastModule := rfl
@[simp] theorem pulseRfDone_rfStatus (s : State) : (pulseRfDone s).rfStatus = s.rfStatus := rfl
@[simp] theorem pulseRfDone_rfLen (s : State) : (pulseRfDone s).rfLen = s.rfLen := rfl
@[simp] theorem pulseRfDone_txbuf (s : State) : (pulseRfDone s).txbuf = s.txbuf := rfl
@[simp] theorem pulseRfDone_rxbuf (s : State) : (pulseRfDone s).rxbuf = s.rxbuf := rfl
@[simp] theorem pulseRfDone_rxQueue (s : State) : (pulseRfDone s).rxQueue = s.rxQueue := rfl
@[simp] theorem pulseRfDone_txStream (s : State) : (pulseRfDone s).txStream = s.txStream := rfl
@[simp] theorem pulseRfDone_echo (s : State) : (pulseRfDone s).echo = s.echo := rfl
@[simp] theorem pulseRfDone_inputs (s : State) : (pulseRfDone s).inputs = s.inputs := rfl
@[simp] theorem pulseRfDone_held (s : State) : (pulseRfDone s).held = s.held := rfl
@[simp] theorem pulseRfDone_opWord (s : State) : (pulseRfDone s).opWord = s.opWord := rfl
@[simp] theorem pulseRfDone_args (s : State) : (pulseRfDone s).args = s.args := rfl
@[simp] theorem pulseRfDone_result (s : State) : (pulseRfDone s).result = s.result := rfl

/-! `raiseFault` -/

@[simp] theorem raiseFault_fault (c : FaultCode) (s : State) : (raiseFault c s).fault = true := rfl
@[simp] theorem raiseFault_faultCode (c : FaultCode) (s : State) : (raiseFault c s).faultCode = c := rfl
@[simp] theorem raiseFault_st (c : FaultCode) (s : State) : (raiseFault c s).st = .fault := rfl
@[simp] theorem raiseFault_cfg (c : FaultCode) (s : State) : (raiseFault c s).cfg = s.cfg := rfl
@[simp] theorem raiseFault_timer (c : FaultCode) (s : State) : (raiseFault c s).timer = s.timer := rfl
@[simp] theorem raiseFault_idx (c : FaultCode) (s : State) : (raiseFault c s).idx = s.idx := rfl
@[simp] theorem raiseFault_len (c : FaultCode) (s : State) : (raiseFault c s).len = s.len := rfl
@[simp] theorem raiseFault_csum (c : FaultCode) (s : State) : (raiseFault c s).csum = s.csum := rfl
@[simp] theorem raiseFault_modId (c : FaultCode) (s : State) : (raiseFault c s).modId = s.modId := rfl
@[simp] theorem raiseFault_drainRem (c : FaultCode) (s : State) : (raiseFault c s).drainRem = s.drainRem := rfl
@[simp] theorem raiseFault_rxCount (c : FaultCode) (s : State) : (raiseFault c s).rxCount = s.rxCount := rfl
@[simp] theorem raiseFault_sync (c : FaultCode) (s : State) : (raiseFault c s).sync = s.sync := rfl
@[simp] theorem raiseFault_startFailed (c : FaultCode) (s : State) : (raiseFault c s).startFailed = s.startFailed := rfl
@[simp] theorem raiseFault_lastResult (c : FaultCode) (s : State) : (raiseFault c s).lastResult = s.lastResult := rfl
@[simp] theorem raiseFault_lastModule (c : FaultCode) (s : State) : (raiseFault c s).lastModule = s.lastModule := rfl
@[simp] theorem raiseFault_rfStatus (c : FaultCode) (s : State) : (raiseFault c s).rfStatus = s.rfStatus := rfl
@[simp] theorem raiseFault_rfLen (c : FaultCode) (s : State) : (raiseFault c s).rfLen = s.rfLen := rfl
@[simp] theorem raiseFault_txbuf (c : FaultCode) (s : State) : (raiseFault c s).txbuf = s.txbuf := rfl
@[simp] theorem raiseFault_rxbuf (c : FaultCode) (s : State) : (raiseFault c s).rxbuf = s.rxbuf := rfl
@[simp] theorem raiseFault_outs (c : FaultCode) (s : State) : (raiseFault c s).outs = s.outs := rfl
@[simp] theorem raiseFault_rxQueue (c : FaultCode) (s : State) : (raiseFault c s).rxQueue = s.rxQueue := rfl
@[simp] theorem raiseFault_txStream (c : FaultCode) (s : State) : (raiseFault c s).txStream = s.txStream := rfl
@[simp] theorem raiseFault_echo (c : FaultCode) (s : State) : (raiseFault c s).echo = s.echo := rfl
@[simp] theorem raiseFault_inputs (c : FaultCode) (s : State) : (raiseFault c s).inputs = s.inputs := rfl
@[simp] theorem raiseFault_held (c : FaultCode) (s : State) : (raiseFault c s).held = s.held := rfl
@[simp] theorem raiseFault_events (c : FaultCode) (s : State) : (raiseFault c s).events = s.events := rfl
@[simp] theorem raiseFault_opWord (c : FaultCode) (s : State) : (raiseFault c s).opWord = s.opWord := rfl
@[simp] theorem raiseFault_args (c : FaultCode) (s : State) : (raiseFault c s).args = s.args := rfl
@[simp] theorem raiseFault_result (c : FaultCode) (s : State) : (raiseFault c s).result = s.result := rfl

/-! `applyReset` -/

@[simp] theorem applyReset_st (s : State) : (applyReset s).st = .stopped := rfl
@[simp] theorem applyReset_sync (s : State) : (applyReset s).sync = .connected := rfl
@[simp] theorem applyReset_timer (s : State) : (applyReset s).timer = 0 := rfl
@[simp] theorem applyReset_idx (s : State) : (applyReset s).idx = 0 := rfl
@[simp] theorem applyReset_len (s : State) : (applyReset s).len = 0 := rfl
@[simp] theorem applyReset_drainRem (s : State) : (applyReset s).drainRem = 0 := rfl
@[simp] theorem applyReset_rxCount (s : State) : (applyReset s).rxCount = 0 := rfl
@[simp] theorem applyReset_csum (s : State) : (applyReset s).csum = 0x00 := rfl
@[simp] theorem applyReset_modId (s : State) : (applyReset s).modId = 0x00 := rfl
@[simp] theorem applyReset_fault (s : State) : (applyReset s).fault = false := rfl
@[simp] theorem applyReset_faultCode (s : State) : (applyReset s).faultCode = .none := rfl
@[simp] theorem applyReset_startFailed (s : State) : (applyReset s).startFailed = false := rfl
@[simp] theorem applyReset_lastResult (s : State) : (applyReset s).lastResult = .none := rfl
@[simp] theorem applyReset_lastModule (s : State) : (applyReset s).lastModule = 0x00 := rfl
@[simp] theorem applyReset_rfStatus (s : State) : (applyReset s).rfStatus = .none := rfl
@[simp] theorem applyReset_rfLen (s : State) : (applyReset s).rfLen = 0 := rfl
@[simp] theorem applyReset_cfg (s : State) : (applyReset s).cfg = s.cfg := rfl
@[simp] theorem applyReset_txbuf (s : State) : (applyReset s).txbuf = s.txbuf := rfl
@[simp] theorem applyReset_rxbuf (s : State) : (applyReset s).rxbuf = s.rxbuf := rfl
@[simp] theorem applyReset_outs (s : State) : (applyReset s).outs = s.outs := rfl
@[simp] theorem applyReset_rxQueue (s : State) : (applyReset s).rxQueue = s.rxQueue := rfl
@[simp] theorem applyReset_txStream (s : State) : (applyReset s).txStream = s.txStream := rfl
@[simp] theorem applyReset_echo (s : State) : (applyReset s).echo = s.echo := rfl
@[simp] theorem applyReset_inputs (s : State) : (applyReset s).inputs = s.inputs := rfl
@[simp] theorem applyReset_held (s : State) : (applyReset s).held = s.held := rfl
@[simp] theorem applyReset_events (s : State) : (applyReset s).events = s.events := rfl
@[simp] theorem applyReset_opWord (s : State) : (applyReset s).opWord = s.opWord := rfl
@[simp] theorem applyReset_args (s : State) : (applyReset s).args = s.args := rfl
@[simp] theorem applyReset_result (s : State) : (applyReset s).result = s.result := rfl

/-! `beginCycle` -/

@[simp] theorem beginCycle_inputs (i : CycleIn) (s : State) : (beginCycle i s).inputs = s.inputs.tail := rfl
@[simp] theorem beginCycle_rxQueue (i : CycleIn) (s : State) : (beginCycle i s).rxQueue = s.rxQueue ++ i.rx := rfl
@[simp] theorem beginCycle_outs (i : CycleIn) (s : State) : (beginCycle i s).outs = { rfRdata := s.rfRdata (lenPort s.cfg i.rfRaddr) } := rfl
@[simp] theorem beginCycle_cfg (i : CycleIn) (s : State) : (beginCycle i s).cfg = s.cfg := rfl
@[simp] theorem beginCycle_st (i : CycleIn) (s : State) : (beginCycle i s).st = s.st := rfl
@[simp] theorem beginCycle_timer (i : CycleIn) (s : State) : (beginCycle i s).timer = s.timer := rfl
@[simp] theorem beginCycle_idx (i : CycleIn) (s : State) : (beginCycle i s).idx = s.idx := rfl
@[simp] theorem beginCycle_len (i : CycleIn) (s : State) : (beginCycle i s).len = s.len := rfl
@[simp] theorem beginCycle_csum (i : CycleIn) (s : State) : (beginCycle i s).csum = s.csum := rfl
@[simp] theorem beginCycle_modId (i : CycleIn) (s : State) : (beginCycle i s).modId = s.modId := rfl
@[simp] theorem beginCycle_drainRem (i : CycleIn) (s : State) : (beginCycle i s).drainRem = s.drainRem := rfl
@[simp] theorem beginCycle_rxCount (i : CycleIn) (s : State) : (beginCycle i s).rxCount = s.rxCount := rfl
@[simp] theorem beginCycle_sync (i : CycleIn) (s : State) : (beginCycle i s).sync = s.sync := rfl
@[simp] theorem beginCycle_fault (i : CycleIn) (s : State) : (beginCycle i s).fault = s.fault := rfl
@[simp] theorem beginCycle_faultCode (i : CycleIn) (s : State) : (beginCycle i s).faultCode = s.faultCode := rfl
@[simp] theorem beginCycle_startFailed (i : CycleIn) (s : State) : (beginCycle i s).startFailed = s.startFailed := rfl
@[simp] theorem beginCycle_lastResult (i : CycleIn) (s : State) : (beginCycle i s).lastResult = s.lastResult := rfl
@[simp] theorem beginCycle_lastModule (i : CycleIn) (s : State) : (beginCycle i s).lastModule = s.lastModule := rfl
@[simp] theorem beginCycle_rfStatus (i : CycleIn) (s : State) : (beginCycle i s).rfStatus = s.rfStatus := rfl
@[simp] theorem beginCycle_rfLen (i : CycleIn) (s : State) : (beginCycle i s).rfLen = s.rfLen := rfl
@[simp] theorem beginCycle_txbuf (i : CycleIn) (s : State) : (beginCycle i s).txbuf = s.txbuf := rfl
@[simp] theorem beginCycle_rxbuf (i : CycleIn) (s : State) : (beginCycle i s).rxbuf = s.rxbuf := rfl
@[simp] theorem beginCycle_txStream (i : CycleIn) (s : State) : (beginCycle i s).txStream = s.txStream := rfl
@[simp] theorem beginCycle_echo (i : CycleIn) (s : State) : (beginCycle i s).echo = s.echo := rfl
@[simp] theorem beginCycle_held (i : CycleIn) (s : State) : (beginCycle i s).held = s.held := rfl
@[simp] theorem beginCycle_events (i : CycleIn) (s : State) : (beginCycle i s).events = s.events := rfl
@[simp] theorem beginCycle_opWord (i : CycleIn) (s : State) : (beginCycle i s).opWord = s.opWord := rfl
@[simp] theorem beginCycle_args (i : CycleIn) (s : State) : (beginCycle i s).args = s.args := rfl
@[simp] theorem beginCycle_result (i : CycleIn) (s : State) : (beginCycle i s).result = s.result := rfl

/-! `beginAwait` -/

@[simp] theorem beginAwait_timer (s : State) : (beginAwait s).timer = s.cfg.cTimeout := rfl
@[simp] theorem beginAwait_st (s : State) : (beginAwait s).st = .reqWait := rfl
@[simp] theorem beginAwait_cfg (s : State) : (beginAwait s).cfg = s.cfg := rfl
@[simp] theorem beginAwait_idx (s : State) : (beginAwait s).idx = s.idx := rfl
@[simp] theorem beginAwait_len (s : State) : (beginAwait s).len = s.len := rfl
@[simp] theorem beginAwait_csum (s : State) : (beginAwait s).csum = s.csum := rfl
@[simp] theorem beginAwait_modId (s : State) : (beginAwait s).modId = s.modId := rfl
@[simp] theorem beginAwait_drainRem (s : State) : (beginAwait s).drainRem = s.drainRem := rfl
@[simp] theorem beginAwait_rxCount (s : State) : (beginAwait s).rxCount = s.rxCount := rfl
@[simp] theorem beginAwait_sync (s : State) : (beginAwait s).sync = s.sync := rfl
@[simp] theorem beginAwait_fault (s : State) : (beginAwait s).fault = s.fault := rfl
@[simp] theorem beginAwait_faultCode (s : State) : (beginAwait s).faultCode = s.faultCode := rfl
@[simp] theorem beginAwait_startFailed (s : State) : (beginAwait s).startFailed = s.startFailed := rfl
@[simp] theorem beginAwait_lastResult (s : State) : (beginAwait s).lastResult = s.lastResult := rfl
@[simp] theorem beginAwait_lastModule (s : State) : (beginAwait s).lastModule = s.lastModule := rfl
@[simp] theorem beginAwait_rfStatus (s : State) : (beginAwait s).rfStatus = s.rfStatus := rfl
@[simp] theorem beginAwait_rfLen (s : State) : (beginAwait s).rfLen = s.rfLen := rfl
@[simp] theorem beginAwait_txbuf (s : State) : (beginAwait s).txbuf = s.txbuf := rfl
@[simp] theorem beginAwait_rxbuf (s : State) : (beginAwait s).rxbuf = s.rxbuf := rfl
@[simp] theorem beginAwait_outs (s : State) : (beginAwait s).outs = s.outs := rfl
@[simp] theorem beginAwait_rxQueue (s : State) : (beginAwait s).rxQueue = s.rxQueue := rfl
@[simp] theorem beginAwait_txStream (s : State) : (beginAwait s).txStream = s.txStream := rfl
@[simp] theorem beginAwait_echo (s : State) : (beginAwait s).echo = s.echo := rfl
@[simp] theorem beginAwait_inputs (s : State) : (beginAwait s).inputs = s.inputs := rfl
@[simp] theorem beginAwait_held (s : State) : (beginAwait s).held = s.held := rfl
@[simp] theorem beginAwait_events (s : State) : (beginAwait s).events = s.events := rfl
@[simp] theorem beginAwait_opWord (s : State) : (beginAwait s).opWord = s.opWord := rfl
@[simp] theorem beginAwait_args (s : State) : (beginAwait s).args = s.args := rfl
@[simp] theorem beginAwait_result (s : State) : (beginAwait s).result = s.result := rfl

/-! `beginTransmit` -/

@[simp] theorem beginTransmit_len (n : Nat) (s : State) : (beginTransmit n s).len = n := rfl
@[simp] theorem beginTransmit_timer (n : Nat) (s : State) : (beginTransmit n s).timer = s.cfg.cPostRecv := rfl
@[simp] theorem beginTransmit_st (n : Nat) (s : State) : (beginTransmit n s).st = .txSettle := rfl
@[simp] theorem beginTransmit_cfg (n : Nat) (s : State) : (beginTransmit n s).cfg = s.cfg := rfl
@[simp] theorem beginTransmit_idx (n : Nat) (s : State) : (beginTransmit n s).idx = s.idx := rfl
@[simp] theorem beginTransmit_csum (n : Nat) (s : State) : (beginTransmit n s).csum = s.csum := rfl
@[simp] theorem beginTransmit_modId (n : Nat) (s : State) : (beginTransmit n s).modId = s.modId := rfl
@[simp] theorem beginTransmit_drainRem (n : Nat) (s : State) : (beginTransmit n s).drainRem = s.drainRem := rfl
@[simp] theorem beginTransmit_rxCount (n : Nat) (s : State) : (beginTransmit n s).rxCount = s.rxCount := rfl
@[simp] theorem beginTransmit_sync (n : Nat) (s : State) : (beginTransmit n s).sync = s.sync := rfl
@[simp] theorem beginTransmit_fault (n : Nat) (s : State) : (beginTransmit n s).fault = s.fault := rfl
@[simp] theorem beginTransmit_faultCode (n : Nat) (s : State) : (beginTransmit n s).faultCode = s.faultCode := rfl
@[simp] theorem beginTransmit_startFailed (n : Nat) (s : State) : (beginTransmit n s).startFailed = s.startFailed := rfl
@[simp] theorem beginTransmit_lastResult (n : Nat) (s : State) : (beginTransmit n s).lastResult = s.lastResult := rfl
@[simp] theorem beginTransmit_lastModule (n : Nat) (s : State) : (beginTransmit n s).lastModule = s.lastModule := rfl
@[simp] theorem beginTransmit_rfStatus (n : Nat) (s : State) : (beginTransmit n s).rfStatus = s.rfStatus := rfl
@[simp] theorem beginTransmit_rfLen (n : Nat) (s : State) : (beginTransmit n s).rfLen = s.rfLen := rfl
@[simp] theorem beginTransmit_txbuf (n : Nat) (s : State) : (beginTransmit n s).txbuf = s.txbuf := rfl
@[simp] theorem beginTransmit_rxbuf (n : Nat) (s : State) : (beginTransmit n s).rxbuf = s.rxbuf := rfl
@[simp] theorem beginTransmit_outs (n : Nat) (s : State) : (beginTransmit n s).outs = s.outs := rfl
@[simp] theorem beginTransmit_rxQueue (n : Nat) (s : State) : (beginTransmit n s).rxQueue = s.rxQueue := rfl
@[simp] theorem beginTransmit_txStream (n : Nat) (s : State) : (beginTransmit n s).txStream = s.txStream := rfl
@[simp] theorem beginTransmit_echo (n : Nat) (s : State) : (beginTransmit n s).echo = s.echo := rfl
@[simp] theorem beginTransmit_inputs (n : Nat) (s : State) : (beginTransmit n s).inputs = s.inputs := rfl
@[simp] theorem beginTransmit_held (n : Nat) (s : State) : (beginTransmit n s).held = s.held := rfl
@[simp] theorem beginTransmit_events (n : Nat) (s : State) : (beginTransmit n s).events = s.events := rfl
@[simp] theorem beginTransmit_opWord (n : Nat) (s : State) : (beginTransmit n s).opWord = s.opWord := rfl
@[simp] theorem beginTransmit_args (n : Nat) (s : State) : (beginTransmit n s).args = s.args := rfl
@[simp] theorem beginTransmit_result (n : Nat) (s : State) : (beginTransmit n s).result = s.result := rfl

/-! `loseSync` -/

@[simp] theorem loseSync_sync (s : State) : (loseSync s).sync = .syncing := by unfold loseSync; split <;> simp_all
@[simp] theorem loseSync_cfg (s : State) : (loseSync s).cfg = s.cfg := by unfold loseSync; split <;> rfl
@[simp] theorem loseSync_st (s : State) : (loseSync s).st = s.st := by unfold loseSync; split <;> rfl
@[simp] theorem loseSync_timer (s : State) : (loseSync s).timer = s.timer := by unfold loseSync; split <;> rfl
@[simp] theorem loseSync_idx (s : State) : (loseSync s).idx = s.idx := by unfold loseSync; split <;> rfl
@[simp] theorem loseSync_len (s : State) : (loseSync s).len = s.len := by unfold loseSync; split <;> rfl
@[simp] theorem loseSync_csum (s : State) : (loseSync s).csum = s.csum := by unfold loseSync; split <;> rfl
@[simp] theorem loseSync_modId (s : State) : (loseSync s).modId = s.modId := by unfold loseSync; split <;> rfl
@[simp] theorem loseSync_drainRem (s : State) : (loseSync s).drainRem = s.drainRem := by unfold loseSync; split <;> rfl
@[simp] theorem loseSync_rxCount (s : State) : (loseSync s).rxCount = s.rxCount := by unfold loseSync; split <;> rfl
@[simp] theorem loseSync_fault (s : State) : (loseSync s).fault = s.fault := by unfold loseSync; split <;> rfl
@[simp] theorem loseSync_faultCode (s : State) : (loseSync s).faultCode = s.faultCode := by unfold loseSync; split <;> rfl
@[simp] theorem loseSync_startFailed (s : State) : (loseSync s).startFailed = s.startFailed := by unfold loseSync; split <;> rfl
@[simp] theorem loseSync_lastResult (s : State) : (loseSync s).lastResult = s.lastResult := by unfold loseSync; split <;> rfl
@[simp] theorem loseSync_lastModule (s : State) : (loseSync s).lastModule = s.lastModule := by unfold loseSync; split <;> rfl
@[simp] theorem loseSync_rfStatus (s : State) : (loseSync s).rfStatus = s.rfStatus := by unfold loseSync; split <;> rfl
@[simp] theorem loseSync_rfLen (s : State) : (loseSync s).rfLen = s.rfLen := by unfold loseSync; split <;> rfl
@[simp] theorem loseSync_txbuf (s : State) : (loseSync s).txbuf = s.txbuf := by unfold loseSync; split <;> rfl
@[simp] theorem loseSync_rxbuf (s : State) : (loseSync s).rxbuf = s.rxbuf := by unfold loseSync; split <;> rfl
@[simp] theorem loseSync_rxQueue (s : State) : (loseSync s).rxQueue = s.rxQueue := by unfold loseSync; split <;> rfl
@[simp] theorem loseSync_txStream (s : State) : (loseSync s).txStream = s.txStream := by unfold loseSync; split <;> rfl
@[simp] theorem loseSync_echo (s : State) : (loseSync s).echo = s.echo := by unfold loseSync; split <;> rfl
@[simp] theorem loseSync_inputs (s : State) : (loseSync s).inputs = s.inputs := by unfold loseSync; split <;> rfl
@[simp] theorem loseSync_held (s : State) : (loseSync s).held = s.held := by unfold loseSync; split <;> rfl
@[simp] theorem loseSync_opWord (s : State) : (loseSync s).opWord = s.opWord := by unfold loseSync; split <;> rfl
@[simp] theorem loseSync_args (s : State) : (loseSync s).args = s.args := by unfold loseSync; split <;> rfl
@[simp] theorem loseSync_result (s : State) : (loseSync s).result = s.result := by unfold loseSync; split <;> rfl

/-! `regainSync` -/

@[simp] theorem regainSync_sync (s : State) : (regainSync s).sync = .connected := by unfold regainSync; split <;> simp_all
@[simp] theorem regainSync_cfg (s : State) : (regainSync s).cfg = s.cfg := by unfold regainSync; split <;> rfl
@[simp] theorem regainSync_st (s : State) : (regainSync s).st = s.st := by unfold regainSync; split <;> rfl
@[simp] theorem regainSync_timer (s : State) : (regainSync s).timer = s.timer := by unfold regainSync; split <;> rfl
@[simp] theorem regainSync_idx (s : State) : (regainSync s).idx = s.idx := by unfold regainSync; split <;> rfl
@[simp] theorem regainSync_len (s : State) : (regainSync s).len = s.len := by unfold regainSync; split <;> rfl
@[simp] theorem regainSync_csum (s : State) : (regainSync s).csum = s.csum := by unfold regainSync; split <;> rfl
@[simp] theorem regainSync_modId (s : State) : (regainSync s).modId = s.modId := by unfold regainSync; split <;> rfl
@[simp] theorem regainSync_drainRem (s : State) : (regainSync s).drainRem = s.drainRem := by unfold regainSync; split <;> rfl
@[simp] theorem regainSync_rxCount (s : State) : (regainSync s).rxCount = s.rxCount := by unfold regainSync; split <;> rfl
@[simp] theorem regainSync_fault (s : State) : (regainSync s).fault = s.fault := by unfold regainSync; split <;> rfl
@[simp] theorem regainSync_faultCode (s : State) : (regainSync s).faultCode = s.faultCode := by unfold regainSync; split <;> rfl
@[simp] theorem regainSync_startFailed (s : State) : (regainSync s).startFailed = s.startFailed := by unfold regainSync; split <;> rfl
@[simp] theorem regainSync_lastResult (s : State) : (regainSync s).lastResult = s.lastResult := by unfold regainSync; split <;> rfl
@[simp] theorem regainSync_lastModule (s : State) : (regainSync s).lastModule = s.lastModule := by unfold regainSync; split <;> rfl
@[simp] theorem regainSync_rfStatus (s : State) : (regainSync s).rfStatus = s.rfStatus := by unfold regainSync; split <;> rfl
@[simp] theorem regainSync_rfLen (s : State) : (regainSync s).rfLen = s.rfLen := by unfold regainSync; split <;> rfl
@[simp] theorem regainSync_txbuf (s : State) : (regainSync s).txbuf = s.txbuf := by unfold regainSync; split <;> rfl
@[simp] theorem regainSync_rxbuf (s : State) : (regainSync s).rxbuf = s.rxbuf := by unfold regainSync; split <;> rfl
@[simp] theorem regainSync_rxQueue (s : State) : (regainSync s).rxQueue = s.rxQueue := by unfold regainSync; split <;> rfl
@[simp] theorem regainSync_txStream (s : State) : (regainSync s).txStream = s.txStream := by unfold regainSync; split <;> rfl
@[simp] theorem regainSync_echo (s : State) : (regainSync s).echo = s.echo := by unfold regainSync; split <;> rfl
@[simp] theorem regainSync_inputs (s : State) : (regainSync s).inputs = s.inputs := by unfold regainSync; split <;> rfl
@[simp] theorem regainSync_held (s : State) : (regainSync s).held = s.held := by unfold regainSync; split <;> rfl
@[simp] theorem regainSync_opWord (s : State) : (regainSync s).opWord = s.opWord := by unfold regainSync; split <;> rfl
@[simp] theorem regainSync_args (s : State) : (regainSync s).args = s.args := by unfold regainSync; split <;> rfl
@[simp] theorem regainSync_result (s : State) : (regainSync s).result = s.result := by unfold regainSync; split <;> rfl

/-! `resync` -/

@[simp] theorem resync_lastResult (o : Resync) (s : State) : (resync o s).lastResult = resyncResult o := by simp [resync]
@[simp] theorem resync_st (o : Resync) (s : State) : (resync o s).st = .top := by simp [resync]
@[simp] theorem resync_sync (o : Resync) (s : State) : (resync o s).sync = .syncing := by simp [resync]
@[simp] theorem resync_cfg (o : Resync) (s : State) : (resync o s).cfg = s.cfg := by simp [resync]
@[simp] theorem resync_timer (o : Resync) (s : State) : (resync o s).timer = s.timer := by simp [resync]
@[simp] theorem resync_idx (o : Resync) (s : State) : (resync o s).idx = s.idx := by simp [resync]
@[simp] theorem resync_len (o : Resync) (s : State) : (resync o s).len = s.len := by simp [resync]
@[simp] theorem resync_csum (o : Resync) (s : State) : (resync o s).csum = s.csum := by simp [resync]
@[simp] theorem resync_modId (o : Resync) (s : State) : (resync o s).modId = s.modId := by simp [resync]
@[simp] theorem resync_drainRem (o : Resync) (s : State) : (resync o s).drainRem = s.drainRem := by simp [resync]
@[simp] theorem resync_rxCount (o : Resync) (s : State) : (resync o s).rxCount = s.rxCount := by simp [resync]
@[simp] theorem resync_fault (o : Resync) (s : State) : (resync o s).fault = s.fault := by simp [resync]
@[simp] theorem resync_faultCode (o : Resync) (s : State) : (resync o s).faultCode = s.faultCode := by simp [resync]
@[simp] theorem resync_startFailed (o : Resync) (s : State) : (resync o s).startFailed = s.startFailed := by simp [resync]
@[simp] theorem resync_lastModule (o : Resync) (s : State) : (resync o s).lastModule = s.lastModule := by simp [resync]
@[simp] theorem resync_rfStatus (o : Resync) (s : State) : (resync o s).rfStatus = s.rfStatus := by simp [resync]
@[simp] theorem resync_rfLen (o : Resync) (s : State) : (resync o s).rfLen = s.rfLen := by simp [resync]
@[simp] theorem resync_txbuf (o : Resync) (s : State) : (resync o s).txbuf = s.txbuf := by simp [resync]
@[simp] theorem resync_rxbuf (o : Resync) (s : State) : (resync o s).rxbuf = s.rxbuf := by simp [resync]
@[simp] theorem resync_rxQueue (o : Resync) (s : State) : (resync o s).rxQueue = s.rxQueue := by simp [resync]
@[simp] theorem resync_txStream (o : Resync) (s : State) : (resync o s).txStream = s.txStream := by simp [resync]
@[simp] theorem resync_echo (o : Resync) (s : State) : (resync o s).echo = s.echo := by simp [resync]
@[simp] theorem resync_inputs (o : Resync) (s : State) : (resync o s).inputs = s.inputs := by simp [resync]
@[simp] theorem resync_held (o : Resync) (s : State) : (resync o s).held = s.held := by simp [resync]
@[simp] theorem resync_opWord (o : Resync) (s : State) : (resync o s).opWord = s.opWord := by simp [resync]
@[simp] theorem resync_args (o : Resync) (s : State) : (resync o s).args = s.args := by simp [resync]
@[simp] theorem resync_result (o : Resync) (s : State) : (resync o s).result = s.result := by simp [resync]

/-! `reconnect` -/

@[simp] theorem reconnect_modId (m : Byte) (s : State) : (reconnect m s).modId = m := by simp [reconnect]
@[simp] theorem reconnect_lastResult (m : Byte) (s : State) : (reconnect m s).lastResult = .moduleId := by simp [reconnect]
@[simp] theorem reconnect_lastModule (m : Byte) (s : State) : (reconnect m s).lastModule = m := by simp [reconnect]
@[simp] theorem reconnect_sync (m : Byte) (s : State) : (reconnect m s).sync = .connected := by simp [reconnect]
@[simp] theorem reconnect_cfg (m : Byte) (s : State) : (reconnect m s).cfg = s.cfg := by simp [reconnect]
@[simp] theorem reconnect_st (m : Byte) (s : State) : (reconnect m s).st = s.st := by simp [reconnect]
@[simp] theorem reconnect_timer (m : Byte) (s : State) : (reconnect m s).timer = s.timer := by simp [reconnect]
@[simp] theorem reconnect_idx (m : Byte) (s : State) : (reconnect m s).idx = s.idx := by simp [reconnect]
@[simp] theorem reconnect_len (m : Byte) (s : State) : (reconnect m s).len = s.len := by simp [reconnect]
@[simp] theorem reconnect_csum (m : Byte) (s : State) : (reconnect m s).csum = s.csum := by simp [reconnect]
@[simp] theorem reconnect_drainRem (m : Byte) (s : State) : (reconnect m s).drainRem = s.drainRem := by simp [reconnect]
@[simp] theorem reconnect_rxCount (m : Byte) (s : State) : (reconnect m s).rxCount = s.rxCount := by simp [reconnect]
@[simp] theorem reconnect_fault (m : Byte) (s : State) : (reconnect m s).fault = s.fault := by simp [reconnect]
@[simp] theorem reconnect_faultCode (m : Byte) (s : State) : (reconnect m s).faultCode = s.faultCode := by simp [reconnect]
@[simp] theorem reconnect_startFailed (m : Byte) (s : State) : (reconnect m s).startFailed = s.startFailed := by simp [reconnect]
@[simp] theorem reconnect_rfStatus (m : Byte) (s : State) : (reconnect m s).rfStatus = s.rfStatus := by simp [reconnect]
@[simp] theorem reconnect_rfLen (m : Byte) (s : State) : (reconnect m s).rfLen = s.rfLen := by simp [reconnect]
@[simp] theorem reconnect_txbuf (m : Byte) (s : State) : (reconnect m s).txbuf = s.txbuf := by simp [reconnect]
@[simp] theorem reconnect_rxbuf (m : Byte) (s : State) : (reconnect m s).rxbuf = s.rxbuf := by simp [reconnect]
@[simp] theorem reconnect_rxQueue (m : Byte) (s : State) : (reconnect m s).rxQueue = s.rxQueue := by simp [reconnect]
@[simp] theorem reconnect_txStream (m : Byte) (s : State) : (reconnect m s).txStream = s.txStream := by simp [reconnect]
@[simp] theorem reconnect_echo (m : Byte) (s : State) : (reconnect m s).echo = s.echo := by simp [reconnect]
@[simp] theorem reconnect_inputs (m : Byte) (s : State) : (reconnect m s).inputs = s.inputs := by simp [reconnect]
@[simp] theorem reconnect_held (m : Byte) (s : State) : (reconnect m s).held = s.held := by simp [reconnect]
@[simp] theorem reconnect_opWord (m : Byte) (s : State) : (reconnect m s).opWord = s.opWord := by simp [reconnect]
@[simp] theorem reconnect_args (m : Byte) (s : State) : (reconnect m s).args = s.args := by simp [reconnect]
@[simp] theorem reconnect_result (m : Byte) (s : State) : (reconnect m s).result = s.result := by simp [reconnect]

/-- `loseSync` pulses exactly where it changes `sync` (R24, R124). -/
theorem loseSync_events (s : State) :
    (loseSync s).events = s.events ++ (if s.sync = .connected then [.sync] else []) := by
  unfold loseSync
  split <;> simp_all

/-- `regainSync` pulses exactly where it changes `sync` (R24, R125). -/
theorem regainSync_events (s : State) :
    (regainSync s).events = s.events ++ (if s.sync = .syncing then [.sync] else []) := by
  unfold regainSync
  split <;> simp_all

/-- The wires of `loseSync` (R24). -/
theorem loseSync_outs (s : State) :
    (loseSync s).outs = (if s.sync = .connected then { s.outs with syncEvent := true } else s.outs) := by
  unfold loseSync
  split <;> simp_all

/-- The wires of `regainSync` (R24). -/
theorem regainSync_outs (s : State) :
    (regainSync s).outs = (if s.sync = .syncing then { s.outs with syncEvent := true } else s.outs) := by
  unfold regainSync
  split <;> simp_all

/-- Bytes of `txbuf` depend on nothing but `txbuf`. -/
theorem txAt_congr {s t : State} (h : t.txbuf = s.txbuf) (a : Nat) : t.txAt a = s.txAt a := by
  simp [State.txAt, h]

/-- Bytes of `rxbuf` depend on nothing but `rxbuf`. -/
theorem rxAt_congr {s t : State} (h : t.rxbuf = s.rxbuf) (a : Nat) : t.rxAt a = s.rxAt a := by
  simp [State.rxAt, h]

end Sys2Proof.Machine
end

