-- ==== Sys2Proof/Laws/Clock.lean ====
section
/-! SUPPORT. What each cycle rule can do, what a clock cycle can do, and how runs of cycles compose. -/

namespace Sys2Proof.Machine

/-! ## The cycle rules -/

/-- All that `REQ_WAIT` can do (R83, R124). -/
theorem ruleReqWait_cases (s : State) :
    (∃ rest, s.rxQueue = s.cfg.sentinel :: rest ∧ ruleReqWait s = { popRx s with st := .reqId }) ∨
    (∃ b rest, s.rxQueue = b :: rest ∧ b ≠ s.cfg.sentinel ∧ ruleReqWait s = resync .invalid (popRx s)) ∨
    (s.rxQueue = [] ∧ s.timer = 0 ∧ ruleReqWait s = resync .timeout s) ∨
    (s.rxQueue = [] ∧ 0 < s.timer ∧ ruleReqWait s = { s with timer := s.timer - 1 }) := by
  unfold ruleReqWait
  split
  · rename_i b rest hq
    by_cases hb : b = s.cfg.sentinel
    · exact .inl ⟨rest, hb ▸ hq, by simp [hb]⟩
    · exact .inr (.inl ⟨b, rest, hq, hb, by simp [hb, rejectInvalid]⟩)
  · rename_i hq
    by_cases ht : s.timer = 0
    · exact .inr (.inr (.inl ⟨hq, ht, by simp [ht]⟩))
    · exact .inr (.inr (.inr ⟨hq, by omega, by simp [ht]⟩))

/-- All that the dispatch of a ModuleId can do (R126). -/
theorem dispatchModule_cases (m : Byte) (s : State) :
    (m = s.cfg.eamId ∧ dispatchModule m s = acceptEam s) ∨
    (m ≠ s.cfg.eamId ∧ m = s.cfg.gpsId ∧ dispatchModule m s = acceptGps s) ∨
    (m ≠ s.cfg.eamId ∧ m ≠ s.cfg.gpsId ∧ dispatchModule m s = acceptUnknown m s) := by
  unfold dispatchModule
  by_cases h1 : m = s.cfg.eamId
  · exact .inl ⟨h1, by simp [h1]⟩
  · by_cases h2 : m = s.cfg.gpsId
    · exact .inr (.inl ⟨h1, h2, by rw [if_neg h1, if_pos h2]⟩)
    · exact .inr (.inr ⟨h1, h2, by rw [if_neg h1, if_neg h2]⟩)

/-- Whatever the class, a dispatch is a reconnect with that ModuleId followed by the choice of the next state (R125,
R126). -/
theorem dispatchModule_eq (m : Byte) (s : State) :
    dispatchModule m s = { reconnect m s with st := if s.cfg.supports m then .build else .top } := by
  rcases dispatchModule_cases m s with ⟨h, e⟩ | ⟨h1, h, e⟩ | ⟨h1, h2, e⟩
  · rw [e, acceptEam, h]; simp [Config.supports]
  · rw [e, acceptGps, h]; simp [Config.supports]
  · rw [e, acceptUnknown]; simp [Config.supports, h1, h2]

/-- All that `REQ_ID` can do (R84). -/
theorem ruleReqId_cases (s : State) :
    (∃ m rest, s.rxQueue = m :: rest ∧ ruleReqId s = dispatchModule m (popRx s)) ∨
    (s.rxQueue = [] ∧ ruleReqId s = s) := by
  unfold ruleReqId
  split
  · exact .inl ⟨_, _, ‹_›, rfl⟩
  · exact .inr ⟨‹_›, rfl⟩

/-- All that `RF_POLL` can do (R92). -/
theorem ruleRfPoll_cases (s : State) :
    (s.rxQueue ≠ [] ∧ ruleRfPoll s = { s with rxCount := 0, st := .rfScan }) ∨
    (s.rxQueue = [] ∧ s.timer = 0 ∧
      ruleRfPoll s = pulseRfDone { s with rfStatus := .timeout, rfLen := 0, st := .stopped }) ∨
    (s.rxQueue = [] ∧ 0 < s.timer ∧ ruleRfPoll s = { s with timer := s.timer - 1 }) := by
  unfold ruleRfPoll
  split
  · exact .inl ⟨by simp [*], rfl⟩
  · rename_i hq
    by_cases ht : s.timer = 0
    · exact .inr (.inl ⟨hq, ht, by simp [ht]⟩)
    · exact .inr (.inr ⟨hq, by omega, by simp [ht]⟩)

/-- All that `RF_SCAN` can do (R93, R95). -/
theorem ruleRfScan_cases {s t : State} (h : ruleRfScan s = .ok t) :
    (s.rxQueue = [] ∧ t = s) ∨
    (s.rxQueue ≠ [] ∧ s.rxCount = s.cfg.rxCapacity ∧ t = raiseFault .rxOverrun s) ∨
    (∃ b rest, s.rxQueue = b :: rest ∧ s.rxCount < s.cfg.rxCapacity ∧
      t = { popRx s with
        rxbuf := s.rxbuf.write s.rxCount b
        rxCount := s.rxCount + 1
        st := if b = s.cfg.terminator then .rfTrail else .rfScan }) := by
  unfold ruleRfScan at h
  split at h
  · rename_i b rest hq
    split at h
    · rename_i hc
      injection h with h
      exact .inr (.inl ⟨by simp [hq], hc, h.symm⟩)
    · cases hw : bufWriteRx s.rxCount b (popRx s) with
      | error e => rw [hw] at h; cases h
      | ok u =>
        rw [hw] at h
        injection h with h
        obtain ⟨hlt, rfl⟩ := bufWriteRx_cases hw
        exact .inr (.inr ⟨b, rest, hq, hlt, by simp [← h, scan]⟩)
  · rename_i hq
    injection h with h
    exact .inl ⟨hq, h.symm⟩

/-- All that `RF_TRAIL` can do (R94, R95). -/
theorem ruleRfTrail_cases {s t : State} (h : ruleRfTrail s = .ok t) :
    (s.rxQueue = [] ∧ t = s) ∨
    (s.rxQueue ≠ [] ∧ s.rxCount = s.cfg.rxCapacity ∧ t = raiseFault .rxOverrun s) ∨
    (∃ b rest, s.rxQueue = b :: rest ∧ s.rxCount < s.cfg.rxCapacity ∧
      t = pulseRfDone { popRx s with
        rxbuf := s.rxbuf.write s.rxCount b
        rxCount := s.rxCount + 1
        rfLen := s.rxCount + 1
        rfStatus := .ok
        st := .stopped }) := by
  unfold ruleRfTrail at h
  split at h
  · rename_i b rest hq
    split at h
    · rename_i hc
      injection h with h
      exact .inr (.inl ⟨by simp [hq], hc, h.symm⟩)
    · cases hw : bufWriteRx s.rxCount b (popRx s) with
      | error e => rw [hw] at h; cases h
      | ok u =>
        rw [hw] at h
        injection h with h
        obtain ⟨hlt, rfl⟩ := bufWriteRx_cases hw
        exact .inr (.inr ⟨b, rest, hq, hlt, h.symm⟩)
  · rename_i hq
    injection h with h
    exact .inl ⟨hq, h.symm⟩

/-- All that `TX_BYTE` can do (R104). -/
theorem ruleTxByte_cases {i : CycleIn} {s t : State} (h : ruleTxByte i s = .ok t) :
    (i.txReady = false ∧ t = s) ∨
    (i.txReady = true ∧ s.idx + 1 = s.len ∧ s.idx < s.cfg.txCapacity ∧
      t = { txWrite s.csum s with
        txbuf := s.txbuf.write s.idx s.csum
        timer := s.cfg.cInterbyte
        st := .txGap }) ∨
    (i.txReady = true ∧ s.idx + 1 ≠ s.len ∧ s.idx < s.cfg.txCapacity ∧
      t = { txWrite (s.txAt s.idx) s with
        csum := s.csum + s.txAt s.idx
        timer := s.cfg.cInterbyte
        st := .txGap }) := by
  unfold ruleTxByte at h
  split at h
  · rename_i hr
    split at h
    · rename_i hl
      cases hw : bufWriteTx s.idx s.csum s with
      | error e => rw [hw] at h; cases h
      | ok u =>
        rw [hw] at h
        injection h with h
        obtain ⟨hlt, rfl⟩ := bufWriteTx_cases hw
        exact .inr (.inl ⟨hr, by simpa [atLastByte] using hl, hlt, h.symm⟩)
    · rename_i hl
      cases hv : bufReadTx s.idx s with
      | error e => rw [hv] at h; cases h
      | ok v =>
        rw [hv] at h
        injection h with h
        obtain ⟨hlt, rfl⟩ := bufReadTx_cases hv
        exact .inr (.inr ⟨hr, by simpa [atLastByte] using hl, hlt, h.symm⟩)
  · rename_i hr
    injection h with h
    exact .inl ⟨by simpa using hr, h.symm⟩

/-- All that `BUILD` can do (R127, R147). -/
theorem ruleBuild_cases {i : CycleIn} {s t : State} (h : ruleBuild i s = .ok t) :
    (i.bldWe = true ∧ s.cfg.txCapacity ≤ bldAddrOf i s ∧ t = raiseFault .buildAddr s) ∨
    (¬(i.bldWe = true ∧ s.cfg.txCapacity ≤ bldAddrOf i s) ∧ i.bldDone = true ∧
      s.cfg.txCapacity < bldLenOf i s ∧ t = raiseFault .txLength s) ∨
    (∃ u, ((i.bldWe = true ∧ bldAddrOf i s < s.cfg.txCapacity ∧
          u = { s with txbuf := s.txbuf.write (bldAddrOf i s) i.bldWdata }) ∨ (i.bldWe = false ∧ u = s)) ∧
      ((i.bldDone = true ∧ bldLenOf i s ≤ s.cfg.txCapacity ∧ t = beginTransmit (bldLenOf i s) u) ∨
        (i.bldDone = false ∧ t = u))) := by
  unfold ruleBuild at h
  split at h
  · rename_i hc
    injection h with h
    simp only [Bool.and_eq_true, decide_eq_true_eq] at hc
    exact .inl ⟨hc.1, hc.2, h.symm⟩
  · rename_i hc
    simp only [Bool.and_eq_true, decide_eq_true_eq] at hc
    split at h
    · rename_i hd
      injection h with h
      simp only [Bool.and_eq_true, decide_eq_true_eq] at hd
      exact .inr (.inl ⟨hc, hd.1, hd.2, h.symm⟩)
    · rename_i hd
      simp only [Bool.and_eq_true, decide_eq_true_eq, not_and, not_lt] at hd
      have finish : ∀ u : State, t = (if i.bldDone then beginTransmit (bldLenOf i s) u else u) →
          (i.bldDone = true ∧ bldLenOf i s ≤ s.cfg.txCapacity ∧ t = beginTransmit (bldLenOf i s) u) ∨
            (i.bldDone = false ∧ t = u) := by
        intro u hu
        by_cases hdone : i.bldDone = true
        · exact .inl ⟨hdone, hd hdone, by simpa [hdone] using hu⟩
        · exact .inr ⟨by simpa using hdone, by simpa [hdone] using hu⟩
      by_cases hwe : i.bldWe = true
      · simp only [hwe, if_true] at h
        cases hw : bufWriteTx (bldAddrOf i s) i.bldWdata s with
        | error e => rw [hw] at h; cases h
        | ok u =>
          rw [hw] at h
          injection h with h
          obtain ⟨hlt, hu⟩ := bufWriteTx_cases hw
          exact .inr (.inr ⟨u, .inl ⟨hwe, hlt, hu⟩, finish u h.symm⟩)
      · simp only [hwe] at h
        injection h with h
        exact .inr (.inr ⟨s, .inr ⟨by simpa using hwe, rfl⟩, finish s h.symm⟩)

/-! ## The clock -/

/-- A cycle with `rst = 1` is the reset rule (R167). -/
theorem clockOn_reset {i : CycleIn} (h : i.rst = true) (s : State) :
    clockOn i s = .ok (applyReset (beginCycle i s)) := by
  simp [clockOn, h]

/-- A cycle with `rst = 0` is the rule of the current state (R36). -/
theorem clockOn_rule {i : CycleIn} (h : i.rst = false) (s : State) :
    clockOn i s = cycleRule i (beginCycle i s) := by
  simp [clockOn, h]

/-- A cycle is a reset or a rule. -/
theorem clockOn_cases {i : CycleIn} {s t : State} (h : clockOn i s = .ok t) :
    (i.rst = true ∧ t = applyReset (beginCycle i s)) ∨
    (i.rst = false ∧ cycleRule i (beginCycle i s) = .ok t) := by
  cases hr : i.rst with
  | true =>
    rw [clockOn_reset hr] at h
    injection h with h
    exact .inl ⟨rfl, h.symm⟩
  | false => exact .inr ⟨rfl, by rw [← clockOn_rule hr]; exact h⟩

/-! ## Runs of cycles -/

/-- Runs of cycles compose. -/
theorem clocks_add (j k : Nat) (s : State) : clocks (j + k) s = (clocks j s).bind (clocks k) := by
  induction j generalizing s with
  | zero => simp [clocks, Except.bind]
  | succ j ih =>
    rw [Nat.succ_add]
    simp only [clocks]
    cases clock s with
    | error e => rfl
    | ok t => simpa [Except.bind] using ih t

/-- A bounded run is some number of cycles, no more than the bound. -/
theorem runWhile_clocks (busy : St → Bool) (fuel : Nat) (s : State) :
    ∃ k ≤ fuel, runWhile busy fuel s = clocks k s := by
  induction fuel generalizing s with
  | zero => exact ⟨0, le_refl 0, rfl⟩
  | succ fuel ih =>
    unfold runWhile
    by_cases hb : busy s.st = true
    · simp only [hb, if_true]
      cases hc : clock s with
      | error e => exact ⟨1, by omega, by simp [clocks, hc, Except.bind]⟩
      | ok t =>
        obtain ⟨k, hk, e⟩ := ih t
        exact ⟨k + 1, by omega, by simp [clocks, hc, Except.bind, e]⟩
    · exact ⟨0, by omega, by simp [hb, clocks]⟩

/-- What every cycle keeps, a bounded run keeps. -/
theorem runWhile_keeps {P : State → Prop} (step : ∀ s t, P s → clock s = .ok t → P t) (busy : St → Bool) (fuel : Nat)
    {s t : State} (hs : P s) (h : runWhile busy fuel s = .ok t) : P t := by
  induction fuel generalizing s with
  | zero =>
    injection h with h
    exact h ▸ hs
  | succ fuel ih =>
    unfold runWhile at h
    split at h
    · cases hc : clock s with
      | error e => rw [hc] at h; cases h
      | ok u => rw [hc] at h; exact ih (step s u hs hc) h
    · injection h with h
      exact h ▸ hs

/-- What every cycle keeps, every number of cycles keeps. -/
theorem clocks_keeps {P : State → Prop} (step : ∀ s t, P s → clock s = .ok t → P t) (k : Nat) {s t : State} (hs : P s)
    (h : clocks k s = .ok t) : P t := by
  induction k generalizing s with
  | zero =>
    injection h with h
    exact h ▸ hs
  | succ k ih =>
    cases hc : clock s with
    | error e => rw [clocks, hc] at h; cases h
    | ok u => rw [clocks, hc] at h; exact ih (step s u hs hc) h

/-- A run does nothing in a state it does not run in. -/
theorem runWhile_idle {busy : St → Bool} {s : State} (h : busy s.st = false) (fuel : Nat) :
    runWhile busy fuel s = .ok s := by
  cases fuel with
  | zero => rfl
  | succ fuel => simp [runWhile, h]

/-- A run takes its next cycle. -/
theorem runWhile_busy {busy : St → Bool} {s : State} (h : busy s.st = true) (fuel : Nat) :
    runWhile busy (fuel + 1) s = (clock s).bind (runWhile busy fuel) := by
  simp [runWhile, h]

/-- A meaning answers a next state exactly where its cycles do. -/
@[simp] theorem answer_next {r : Except Fault State} {t : State} : answer r = .next t ↔ r = .ok t := by
  cases r <;> simp [answer]

/-- A meaning answers a fault exactly where its cycles do. -/
@[simp] theorem answer_fault {r : Except Fault State} {e : Fault} : answer r = .fault e ↔ r = .error e := by
  cases r <;> simp [answer]

/-- No meaning refuses. -/
theorem answer_not_refused (r : Except Fault State) (e : Refusal) : answer r ≠ .refused e := by
  cases r <;> simp [answer]

end Sys2Proof.Machine
end

