-- ==== Sys2Proof/Laws/Line.lean ====
section
/-! SUPPORT. What the line has given by a cycle, one cycle at a time, and the builder's writes. -/

namespace Sys2Proof.Machine

@[simp] theorem portValues_zero (held : CycleIn) (listed : List CycleIn) : portValues held 0 listed = [] := rfl

theorem portValues_succ (held : CycleIn) (k : Nat) (listed : List CycleIn) :
    portValues held (k + 1) listed = listed.headD held :: portValues held k listed.tail := rfl

/-- The port values of `j + k` cycles are those of `j` cycles and then of `k` more. -/
theorem portValues_add (held : CycleIn) (j k : Nat) (listed : List CycleIn) :
    portValues held (j + k) listed = portValues held j listed ++ portValues held k (listed.drop j) := by
  induction j generalizing listed with
  | zero => simp
  | succ j ih =>
    rw [Nat.add_right_comm, portValues_succ, portValues_succ, ih]
    cases listed <;> simp

@[simp] theorem lineBytes_zero (s : State) : lineBytes 0 s = [] := rfl

/-- The bytes of `k + 1` cycles are those of this cycle and then those of the `k` cycles after it. -/
theorem lineBytes_succ {s t : State} (hi : t.inputs = s.inputs.tail) (hh : t.held = s.held) (k : Nat) :
    lineBytes (k + 1) s = s.thisInput.rx ++ lineBytes k t := by
  simp [lineBytes, portValues_succ, State.thisInput, hi, hh]

@[simp] theorem heardBy_zero (s : State) : heardBy 0 s = s.rxQueue := by simp [heardBy]

/-- What is heard by a cycle stands at the head of what is heard by a later one. -/
theorem heardBy_prefix (s : State) {j k : Nat} (h : j ≤ k) : heardBy j s <+: heardBy k s := by
  obtain ⟨d, rfl⟩ := Nat.exists_eq_add_of_le h
  exact ⟨_, by rw [heardBy, heardBy, lineBytes, lineBytes, portValues_add, List.flatMap_append, List.append_assoc]⟩

/-- A cycle that only takes the line's bytes leaves what is heard as it was, one cycle nearer. -/
theorem heardBy_succ {s t : State} (hq : t.rxQueue = s.rxQueue ++ s.thisInput.rx) (hi : t.inputs = s.inputs.tail)
    (hh : t.held = s.held) (k : Nat) : heardBy k t = heardBy (k + 1) s := by
  rw [heardBy, heardBy, lineBytes_succ hi hh, hq, List.append_assoc]

/-- A cycle that pops the head byte takes that byte off what is heard. -/
theorem heardBy_pop {s t : State} {b : Byte} (hq : s.rxQueue ++ s.thisInput.rx = b :: t.rxQueue)
    (hi : t.inputs = s.inputs.tail) (hh : t.held = s.held) (k : Nat) : heardBy (k + 1) s = b :: heardBy k t := by
  rw [heardBy, heardBy, lineBytes_succ hi hh, ← List.append_assoc, hq, List.cons_append]

/-- With nothing heard by a cycle, nothing is heard before it. -/
theorem heardBy_empty {s : State} {j k : Nat} (h : j ≤ k) (hk : heardBy k s = []) : heardBy j s = [] :=
  List.prefix_nil.1 (hk ▸ heardBy_prefix s h)

@[simp] theorem applyWrites_nil (m : Memory) : applyWrites m [] = m := rfl

@[simp] theorem applyWrites_cons (m : Memory) (i : CycleIn) (answers : List CycleIn) :
    applyWrites m (i :: answers) = applyWrites (if i.bldWe then m.write i.bldAddr i.bldWdata else m) answers := rfl

theorem applyWrites_append (m : Memory) (front back : List CycleIn) :
    applyWrites m (front ++ back) = applyWrites (applyWrites m front) back := by
  simp [applyWrites]

theorem buildWrite_idle {i : CycleIn} (h : i.bldWe = false) (s : State) : buildWrite i s = s := by simp [buildWrite, h]

/-- The builder's write changes no register and no space but `txbuf`. -/
theorem buildWrite_frame (i : CycleIn) (s : State) : ∃ m, buildWrite i s = { s with txbuf := m } := by
  unfold buildWrite; split <;> exact ⟨_, rfl⟩

end Sys2Proof.Machine
end

