-- ==== Sys2Proof/Laws/PerInstr.lean ====
section
/-! SUPPORT. The family `EncodeLen`: an instruction is written in as many bytes as its format has (R55), one lemma per
constructor. -/

namespace Sys2Proof.Laws.EncodeLen

/-- The encoding has the length of the format (R55). -/
def Statement (i : Instr) : Prop := ∀ c : Config, (encode c i).length = i.format.bytes

theorem scan : Statement .scan := fun _ => rfl
theorem finalize : Statement .finalize := fun _ => rfl
theorem await : Statement .await := fun _ => rfl
theorem recvFrame : Statement .recvFrame := fun _ => rfl
theorem transmit : Statement .transmit := fun _ => rfl
theorem iterate : Statement .iterate := fun _ => rfl
theorem start : Statement .start := fun _ => rfl
theorem reqEam : Statement .reqEam := fun _ => rfl
theorem reqGps : Statement .reqGps := fun _ => rfl
theorem reqUnknown (m : Byte) : Statement (.reqUnknown m) := fun _ => rfl
theorem reqInvalid (mode : Byte) : Statement (.reqInvalid mode) := fun _ => rfl

end Sys2Proof.Laws.EncodeLen
end

