-- ==== Sys2Proof/Machine/Script.lean ====
section
/-! DEFINITION. The program notation of 30_encoding.md (R70, R71): a bench that plays the environment of the engine, line by
line. -/

namespace Sys2Proof.Machine

/-- One line of a program (R70). -/
inductive Line where
  /-- One cycle with `rst = 1`. -/
  | reset
  /-- `transport_ok <- 1`. -/
  | openTransport
  /-- `transport_ok <- 0`. -/
  | closeTransport
  /-- A one-cycle `start` pulse. -/
  | start
  /-- `shutdown <- 1`. -/
  | stop
  /-- `shutdown <- 0`. -/
  | unstop
  /-- A one-cycle `recv_cmd` pulse. -/
  | recv
  /-- The line appends bytes to the RX queue now. -/
  | rx (bytes : List Byte)
  /-- The builder answers module `m` with these bytes and `bld_len = n`. -/
  | build (m : Byte) (bytes : List Byte) (n : Nat)
  /-- Cycles pass. -/
  | wait (cycles : Nat)
  /-- The line echoes, or does not. -/
  | echo (on : Bool)
  /-- An operation, by its OP8 word, with its operands. -/
  | op (w : Byte) (operands : OpArgs)
deriving DecidableEq, Repr

/-- The engine with the environment of a program: the builder's answers by module, and how many cycles the current `BUILD`
has lasted. The port values come from the held levels and these answers. -/
structure Bench where
  /-- The engine and its line. -/
  state : State
  /-- What the builder answers: module, bytes, length. -/
  answers : List (Byte × List Byte × Nat)
  /-- Cycles of the current `BUILD` so far. -/
  built : Nat
deriving DecidableEq, Repr

/-- The builder in cycle `k` of `BUILD` (95_test_vectors.md B-EX, entry 25): byte `k` at index `k`, and the length in the
cycle of the last byte. -/
def builderPorts (level : CycleIn) (bytes : List Byte) (n k : Nat) : CycleIn :=
  { level with
    bldWe := decide (k < bytes.length)
    bldAddr := k
    bldWdata := bytes.getD k 0
    bldDone := decide (bytes.length ≤ k + 1)
    bldLen := n }

/-- The port values of the bench's next cycle. -/
def Bench.ports (b : Bench) : CycleIn :=
  if b.state.bldReq then
    match b.answers.find? (fun a => a.1 == b.state.bldModule) with
    | some (_, bytes, n) => builderPorts b.state.held bytes n b.built
    | none => b.state.held
  else b.state.held

/-- One cycle of the bench with the given port values. -/
def Bench.cycle (i : CycleIn) (b : Bench) : Except Fault Bench :=
  (clockOn i b.state).map fun s => { b with state := s, built := if b.state.bldReq then b.built + 1 else 0 }

/-- Cycles pass. -/
def Bench.wait : Nat → Bench → Except Fault Bench
  | 0, b => .ok b
  | k + 1, b => (b.cycle b.ports).bind (Bench.wait k)

/-- Wait until `running = 0`, at most so many cycles (R71 `STOP_LOOP`). -/
def Bench.waitStopped : Nat → Bench → Except Fault Bench
  | 0, b => .ok b
  | k + 1, b => if b.state.running then (b.cycle b.ports).bind (Bench.waitStopped k) else .ok b

/-- Set the levels the controller holds. -/
def Bench.setHeld (f : CycleIn → CycleIn) (b : Bench) : Bench :=
  { b with state := { b.state with held := f b.state.held } }

/-- The bench after a model step; the builder begins its next answer afresh (entry 25). -/
def Bench.stepped (b : Bench) : Host.Outcome State Fault Refusal → Host.Outcome Bench Fault Refusal
  | .next s => .next { b with state := s, built := 0 }
  | .fault e => .fault e
  | .refused r => .refused r

/-- The bench after cycles. -/
def Bench.ran : Except Fault Bench → Host.Outcome Bench Fault Refusal
  | .ok b => .next b
  | .error e => .fault e

/-- What one line does (R70). How the environment acts in the cycles of an operation line is the model's choice (entry 25,
DESIGN CHOICE): the operation is one step, run with the held ports only, so the builder of a `build` line is silent in it and
answers in the lines after it. -/
def Bench.line (l : Line) (b : Bench) : Host.Outcome Bench Fault Refusal :=
  match l with
  | .reset => Bench.ran (b.cycle { b.ports with rst := true })
  | .openTransport => .next (b.setHeld fun i => { i with transportOk := true })
  | .closeTransport => .next (b.setHeld fun i => { i with transportOk := false })
  | .start => Bench.ran (b.cycle { b.ports with start := true })
  | .stop => .next (b.setHeld fun i => { i with shutdown := true })
  | .unstop => .next (b.setHeld fun i => { i with shutdown := false })
  | .recv => Bench.ran (b.cycle { b.ports with recvCmd := true })
  | .rx bytes => .next { b with state := { b.state with rxQueue := b.state.rxQueue ++ bytes } }
  | .build m bytes n => .next { b with answers := (m, bytes, n) :: b.answers }
  | .wait cycles => Bench.ran (b.wait cycles)
  | .echo on => .next { b with state := { b.state with echo := on } }
  | .op w operands => b.stepped (step { b.state with opWord := some w, args := operands })

/-- A program, line by line (R70). -/
def Bench.run : List Line → Bench → Host.Outcome Bench Fault Refusal
  | [], b => .next b
  | l :: rest, b =>
    match b.line l with
    | .next b' => Bench.run rest b'
    | .fault e => .fault e
    | .refused r => .refused r

/-- A bench around a state, its builder silent. -/
def State.bench (s : State) : Bench := { state := s, answers := [], built := 0 }

/-! ## Pseudo-operations (R71) -/

/-- `wait T`: `ceil(T / T_CLK)` cycles (R70). -/
def Line.waitTime (c : Config) (t : Nat) : Line := .wait (c.cyclesOf t)

/-- `POLL m`. -/
def Line.poll (c : Config) (m : Byte) : Line := .rx [c.sentinel, m]

/-- `POLL_EAM`. -/
def Line.pollEam (c : Config) : Line := .poll c c.eamId

/-- `POLL_GPS`. -/
def Line.pollGps (c : Config) : Line := .poll c c.gpsId

/-- `BAD b`, with `b != SENTINEL`. -/
def Line.bad (b : Byte) : Line := .rx [b]

/-- `SILENCE`: enough for one Timeout from `TOP` (R132). -/
def Line.silence (c : Config) : Line := .wait (c.cTimeout + 2)

/-- `STOP_LOOP`: `stop`, then wait until `running = 0`. -/
def Bench.stopLoop (fuel : Nat) (b : Bench) : Host.Outcome Bench Fault Refusal :=
  Bench.ran (Bench.waitStopped fuel (b.setHeld fun i => { i with shutdown := true }))

end Sys2Proof.Machine
end

