-- ==== Sys2Proof/Tests/Slice0.lean ====
section
/-! SUPPORT. The model's own tests. Expected results come from 95_test_vectors.md (the vector is named) or from the encoding
tables; the second half shows, for each statement with hypotheses, a state that meets them all. -/

namespace Sys2Proof.Tests

open Sys2Proof Sys2Proof.Machine

/-- The next state of an answer. -/
def after : Host.Outcome State Fault Refusal → Option State
  | .next s => some s
  | .fault _ => none
  | .refused _ => none

/-- The next state of a cycle. -/
def ran : Except Fault State → Option State
  | .ok s => some s
  | .error _ => none

/-- The parameter set EX (95_test_vectors.md section 0). -/
abbrev ex : Config := Config.reference

/-- EX and the environment L-EX in a given FSM state: transport open and ready, line silent. -/
def at' (st : St) : State := { State.reset with st := st, held := { transportOk := true, txReady := true } }

/-- Builder B-EX for the EAM module. -/
def eamAnswers : List CycleIn := (List.range 5).map (builderPorts { transportOk := true, txReady := true } [0x7C, 0x01, 0x20, 0x30, 0xEE] 5)

/-- Builder B-EX for the GPS module. -/
def gpsAnswers : List CycleIn := (List.range 4).map (builderPorts { transportOk := true, txReady := true } [0x10, 0x20, 0xFF, 0x00] 4)

/-- Two cycles in which the transport takes no byte. -/
def stalls : List CycleIn := [{}, {}]

/-- `txbuf` with given bytes from index 0 on. -/
def filled (bytes : List Byte) : Memory := (bytes.zipIdx).foldl (fun m p => m.write p.2 p.1) []

/-! ## Well-formedness and parameters -/

theorem test_unknown_of_supported_id_refused : (Instr.reqUnknown 0x01).wellFormed ex = false := by decide
theorem test_unknown_of_gps_id_refused : (Instr.reqUnknown 0x02).wellFormed ex = false := by decide
theorem test_invalid_sentinel_refused : (Instr.reqInvalid 0xF8).wellFormed ex = false := by decide
theorem test_reference_parameters_ok : ex.ok = true := by decide
theorem test_equal_ids_refused : ({ ex with gpsId := 0x01 } : Config).ok = false := by decide
theorem test_eam_id_ff_refused : ({ ex with eamId := 0xFF } : Config).ok = false := by decide
theorem test_gps_id_ff_refused : ({ ex with gpsId := 0xFF } : Config).ok = false := by decide
theorem test_long_eam_refused : ({ ex with lenEam := 9 } : Config).ok = false := by decide
theorem test_long_gps_refused : ({ ex with lenGps := 9 } : Config).ok = false := by decide
theorem test_empty_eam_refused : ({ ex with lenEam := 0 } : Config).ok = false := by decide
theorem test_empty_gps_refused : ({ ex with lenGps := 0 } : Config).ok = false := by decide
theorem test_short_rxbuf_refused : ({ ex with rxCapacity := 1 } : Config).ok = false := by decide
theorem test_no_clock_refused : ({ ex with tClk := 0 } : Config).ok = false := by decide
theorem test_bad_parameters_stop_the_step : step { State.reset with cfg := { ex with gpsId := 0x01 } } = .refused .badParameters := rfl

/-- 95_test_vectors.md section 0: `C_TIMEOUT = 10`, `C_POST_RECV = 2`, `C_INTERBYTE = 1`, `C_RX_SETTLE = 1`. -/
theorem test_example_cycle_counts : ex.cTimeout = 10 ∧ ex.cPostRecv = 2 ∧ ex.cInterbyte = 1 ∧ ex.cRxSettle = 1 := by decide

/-- R8: with `T_CLK` = 1 us, `C_TIMEOUT` = 1 000 000 and `TIMER_W` = 20. -/
theorem test_microsecond_clock :
    (⟨0xF8, 1, 2, 0x7D, 1000000, 0, 0, 0, 1, 8, 6, 5, 4⟩ : Config).cTimeout = 1000000 ∧
      bitsOf 1000000 = 20 := by decide

/-! ## Decoding: words written out from R56, R57, R60, R61 -/

theorem test_decode_scan : decode ex .opPort [0b00000000] = .ok (.scan, []) := by decide
theorem test_decode_finalize : decode ex .opPort [0b00000001] = .ok (.finalize, []) := by decide
theorem test_decode_await : decode ex .opPort [0b00000010] = .ok (.await, []) := by decide
theorem test_decode_recvFrame : decode ex .opPort [0b00000011] = .ok (.recvFrame, []) := by decide
theorem test_decode_transmit : decode ex .opPort [0b00000100] = .ok (.transmit, []) := by decide
theorem test_decode_iterate : decode ex .opPort [0b00000101] = .ok (.iterate, []) := by decide
theorem test_decode_start : decode ex .opPort [0b00000110] = .ok (.start, []) := by decide
theorem test_decode_reserved_op : decode ex .opPort [0b00000111] = .error (.reservedOpWord 7) := by decide
theorem test_decode_zero_field_set : decode ex .opPort [0b00001000] = .error (.reservedOpWord 8) := by decide
/-- V25: never a third byte. -/
theorem test_decode_reqEam : decode ex .wire [0b11111000, 0b00000001, 0xF8] = .ok (.reqEam, [0xF8]) := by decide
/-- V18. -/
theorem test_decode_reqGps : decode ex .wire [0b11111000, 0b00000010] = .ok (.reqGps, []) := by decide
/-- V19. -/
theorem test_decode_reqUnknown : decode ex .wire [0b11111000, 0b11111111] = .ok (.reqUnknown 0xFF, []) := by decide
/-- V22. -/
theorem test_decode_reqInvalid : decode ex .wire [0b00000000, 0xF8, 0x01] = .ok (.reqInvalid 0, [0xF8, 0x01]) := by decide
/-- V27: a lone sentinel is not a request yet. -/
theorem test_decode_lone_sentinel : decode ex .wire [0b11111000] = .error .incomplete := by decide
/-- R128: the 16-bit value is `0xF801`. -/
theorem test_req16_packing : req16 0xF8 0x01 = 0xF801 := by decide
theorem test_table_words :
    decodeTableWord 16 0xF801 = some .reqEam ∧ decodeTableWord 16 0xF8FF = some (.reqUnknown 0xFF) ∧
      decodeTableWord 8 0x03 = some .recvFrame := by decide

/-! ## Operations -/

/-- V1. -/
theorem test_scan_hit : (after (exec .scan { at' .stopped with args := { byte := 0x7D, index := 0 } })).map (·.result)
    = some (.scan true) := by decide
/-- V3. -/
theorem test_scan_miss : (after (exec .scan { at' .stopped with args := { byte := 0x7C, index := 5 } })).map (·.result)
    = some (.scan false) := by decide
/-- V10. -/
theorem test_finalize_placeholder_ignored :
    (after (exec .finalize { at' .stopped with args := { buffer := [0x01, 0x02, 0x03, 0x99] } })).map
      (fun t => (t.args.buffer, t.result)) = some ([0x01, 0x02, 0x03, 0x06], .finalize 0x06) := by decide
/-- V11. -/
theorem test_finalize_wraps :
    (after (exec .finalize { at' .stopped with args := { buffer := [0xFF, 0x01, 0x00] } })).map
      (fun t => (t.args.buffer, t.result)) = some ([0xFF, 0x01, 0x00], .finalize 0x00) := by decide
/-- S4. -/
theorem test_await_module :
    (after (exec .await { at' .top with rxQueue := [0xF8, 0x5A, 0x99] })).map
      (fun t => (t.modId, t.lastResult, t.rxQueue, t.st)) = some (0x5A, .moduleId, [0x99], .top) := by decide
/-- V28: Timeout after `C_TIMEOUT + 1 = 11` cycles. -/
theorem test_await_timeout :
    (after (exec .await { at' .top with inputs := List.replicate 12 {} })).map
      (fun t => (t.lastResult, t.sync, t.inputs.length)) = some (.timeout, .syncing, 1) := by decide
/-- V33. -/
theorem test_recvFrame_frame :
    (after (exec .recvFrame { at' .stopped with rxQueue := [0x11, 0x7D, 0x22, 0x33] })).map
      (fun t => (t.rfStatus, t.rfLen, t.rxbuf, t.rxQueue)) =
      some (.ok, 3, [(0, 0x11), (1, 0x7D), (2, 0x22)], [0x33]) := by decide
/-- V37: the trailing byte does not fit. -/
theorem test_recvFrame_overrun :
    (after (exec .recvFrame { at' .stopped with rxQueue := [1, 2, 3, 4, 5, 0x7D, 9] })).map
      (fun t => (t.st, t.faultCode, t.rfStatus, t.rxQueue)) = some (.fault, .rxOverrun, .none, [9]) := by decide
/-- V51: V44 with `tx_ready = 0` in cycle `e+4` only, echo on; the echo is drained. -/
theorem test_transmit_frame :
    (after (exec .transmit { at' .build with
      echo := true, txbuf := filled [0x7C, 0x01, 0x20, 0x30, 0xEE], args := { length := 5 }
      inputs := List.replicate 4 { txReady := true } ++ stalls.take 1 })).map
      (fun t => (t.txStream, t.txbuf, t.rxQueue, t.st)) =
      some ([0x7C, 0x01, 0x20, 0x30, 0xCD], filled [0x7C, 0x01, 0x20, 0x30, 0xCD], [], .top) := by decide
/-- V46. -/
theorem test_transmit_one_byte :
    (after (exec .transmit { at' .build with txbuf := filled [0x99], args := { length := 1 } })).map
      (fun t => (t.txStream, t.txbuf)) = some ([0x00], filled [0x00]) := by decide
/-- V61. -/
theorem test_iterate_shutdown :
    (after (exec .iterate { at' .top with held := { shutdown := true } })).map (fun t => (t.st, t.lastResult))
      = some (.stopped, .none) := by decide
/-- V53, first window: Timeout in `C_TIMEOUT + 2 = 12` cycles, one event. -/
theorem test_iterate_silence :
    (after (exec .iterate { at' .top with inputs := List.replicate 13 {} })).map
      (fun t => (t.st, t.lastResult, t.events, t.inputs.length)) = some (.top, .timeout, [.sync], 1) := by decide
/-- V59. -/
theorem test_start_closed :
    (after (exec .start { at' .stopped with held := {} })).map (fun t => (t.startFailed, t.st, t.fault))
      = some (true, .stopped, false) := by decide
/-- V60, V63. -/
theorem test_start_open :
    (after (exec .start { at' .stopped with startFailed := true, sync := .syncing })).map
      (fun t => (t.startFailed, t.st, t.sync, t.events)) = some (false, .top, .connected, []) := by decide
/-- P1. -/
theorem test_reqEam_frame :
    (after (exec .reqEam { at' .reqId with echo := true, inputs := eamAnswers })).map
      (fun t => (t.txStream, t.st, t.rxQueue, t.lastModule)) =
      some ([0x7C, 0x01, 0x20, 0x30, 0xCD], .top, [], 0x01) := by decide
/-- V69: a length past `TX_CAPACITY`. -/
theorem test_reqEam_too_long :
    (after (exec .reqEam { at' .reqId with inputs := [{ bldDone := true, bldLen := 9 }] })).map
      (fun t => (t.st, t.faultCode, t.txStream)) = some (.fault, .txLength, []) := by decide
/-- P2. -/
theorem test_reqGps_frame :
    (after (exec .reqGps { at' .reqId with echo := true, sync := .syncing, inputs := gpsAnswers })).map
      (fun t => (t.txStream, t.st, t.sync, t.events)) = some ([0x10, 0x20, 0xFF, 0x2F], .top, .connected, [.sync]) := by decide
/-- V56: an unknown module also reconnects. -/
theorem test_reqUnknown_reconnects :
    (after (exec (.reqUnknown 0xFF) { at' .reqId with sync := .syncing })).map
      (fun t => (t.st, t.lastModule, t.sync, t.events, t.txStream)) = some (.top, 0xFF, .connected, [.sync], []) := by decide
/-- V58: a second Invalid pulses no event. -/
theorem test_reqInvalid_once :
    (after (exec (.reqInvalid 0x00) { at' .reqWait with sync := .syncing })).map
      (fun t => (t.st, t.lastResult, t.sync, t.events)) = some (.top, .invalid, .syncing, []) := by decide

/-! ## Cycles -/

/-- V29: a byte in the last cycle of the window is taken. -/
theorem test_late_byte_taken :
    (ran (clockOn { rx := [0xF8] } { at' .reqWait with timer := 0 })).map (fun t => (t.st, t.rxQueue, t.outs.rxPop))
      = some (.reqId, [], true) := by decide
/-- V71. -/
theorem test_build_addr_wins :
    (ran (clockOn { bldWe := true, bldAddr := 8, bldDone := true, bldLen := 9 } (at' .build))).map
      (fun t => (t.st, t.faultCode, t.len)) = some (.fault, .buildAddr, 0) := by decide
/-- V72. -/
theorem test_build_last_write_counts :
    (ran (clockOn { bldWe := true, bldAddr := 7, bldWdata := 0x42, bldDone := true, bldLen := 8 } (at' .build))).map
      (fun t => (t.st, t.txbuf, t.len)) = some (.txSettle, [(7, 0x42)], 8) := by decide
/-- V73: the capacity check comes before the terminator test. -/
theorem test_full_rxbuf_faults :
    (ran (clockOn { rx := [0x7D] } { at' .rfScan with rxCount := 6 })).map (fun t => (t.st, t.faultCode, t.rxQueue))
      = some (.fault, .rxOverrun, [0x7D]) := by decide
/-- V74. -/
theorem test_fault_ignores_inputs :
    (ran (clockOn { start := true, recvCmd := true, shutdown := true, rx := [1] } (at' .fault))).map
      (fun t => (t.st, t.outs.rxPop, t.running)) = some (.fault, false, false) := by decide
/-- V78. -/
theorem test_reset_wins_over_write :
    (ran (clockOn { rst := true, txReady := true } { at' .txByte with len := 1 })).map
      (fun t => (t.st, t.outs.txWrite, t.txStream)) = some (.stopped, false, []) := by decide

/-- P4 as a program, in the notation of R70. -/
theorem test_program_recv :
    (match Bench.run [.reset, .openTransport, .echo false, .rx [0x11, 0x7D, 0x22, 0x33], .recv, .wait 6] State.reset.bench with
      | .next b => some (b.state.st, b.state.rfLen, b.state.rxQueue)
      | _ => none) = some (.stopped, 3, [0x33]) := by decide

/-! ## The host's placing of an instruction: it is what the next step runs -/

theorem test_placed_operation_runs :
    step (State.reset.withFetchWord 8 0x05) = exec .iterate { State.reset with st := .top } := rfl
theorem test_placed_request_runs :
    (after (step (State.reset.withFetchWord 16 0xF8FF))).map (fun t => (t.lastModule, t.lastResult, t.rxQueue, t.st))
      = some (0xFF, .moduleId, [], .top) := by decide

/-! ## Witnesses: each statement's hypotheses are met together -/

/-- A quiet state for the witnesses. -/
def quiet (st : St) (q : List Byte) : State := { at' st with rxQueue := q }

theorem quiet_noReset (st : St) (q : List Byte) : NoReset (quiet st q) := ⟨rfl, by simp [quiet, at', State.reset, State.resetWith]⟩
theorem quiet_silent (st : St) (q : List Byte) : SilentLine (quiet st q) := ⟨rfl, by simp [quiet, at', State.reset, State.resetWith]⟩
theorem quiet_ready (st : St) (q : List Byte) : ReadyTransport (quiet st q) :=
  ⟨rfl, by simp [quiet, at', State.reset, State.resetWith]⟩

/-- A quiet state with an empty queue whose line gives these bytes, cycle by cycle. -/
def hearing (st : St) (given : List (List Byte)) : State :=
  { quiet st [] with inputs := given.map fun bytes => { rx := bytes, transportOk := true, txReady := true } }
/-- The invariant holds in the states of the reset machine with an FSM state that needs no counter, and `fault` to match. -/
theorem reset_inv : Inv State.reset := by
  refine ⟨by decide, fits_nil _, fits_nil _, by decide, by decide, by decide, ?_, by decide, by decide, ?_, by decide, by decide,
    ?_, ?_⟩ <;> simp [State.reset, State.resetWith]

theorem witness_decodeExactlyInvertsEncode :
    ex.ok = true ∧ decode ex .wire [0xF8, 0x02, 0x55] = .ok (.reqGps, [0x55]) ∧
      decode ex .opPort [0x06, 0x55] = .ok (.start, [0x55]) := by decide
theorem witness_reservedOperationWordsRefused :
    opField 7 = 7 ∧ opZeroField 8 ≠ 0 ∧ ex.ok = true ∧ ({ at' .stopped with opWord := some 7 } : State).opWord = some 7 ∧
      ({ at' .stopped with opWord := some 8 } : State).opWord = some 8 := by decide
theorem witness_requestClassByItsBytes : ex.ok = true ∧ (0xF7 : Byte) ≠ ex.sentinel ∧ (0x00 : Byte) ≠ ex.eamId ∧
    (0x00 : Byte) ≠ ex.gpsId := by decide
theorem witness_stepRunsDecodedInstruction_op :
    ({ at' .top with opWord := some 5 } : State).opWord = some 5 ∧ decodeOp8 5 = .ok .iterate ∧ ex.ok = true := by decide
theorem witness_stepRunsDecodedInstruction_invalid :
    (quiet .reqWait [0xF7]).opWord = none ∧ (quiet .reqWait [0xF7]).thisInput.rst = false ∧
      (quiet .reqWait [0xF7]).rxQueue = [0xF7] ∧ (0xF7 : Byte) ≠ ex.sentinel := by decide
theorem witness_stepRunsDecodedInstruction_module :
    (quiet .reqWait [0xF8, 0x01]).thisInput.rst = false ∧
      ({ popRx (beginCycle (quiet .reqWait [0xF8, 0x01]).thisInput (quiet .reqWait [0xF8, 0x01])) with st := .reqId } :
        State).thisInput.rst = false ∧ decode ex .wire [ex.sentinel, 0x01] = .ok (.reqEam, []) := by decide
theorem witness_stepRunsDecodedInstruction_moduleByte :
    (quiet .reqId [0x02]).st = .reqId ∧ (quiet .reqId [0x02]).thisInput.rst = false ∧
      (quiet .reqId [0x02]).rxQueue = [0x02] ∧ decode ex .wire [ex.sentinel, 0x02] = .ok (.reqGps, []) := by decide
theorem witness_stepIsClockCycles : State.reset.cfg.ok = true ∧ State.reset.opWord = none := by decide
theorem witness_invariantAfterReset : ex.ok = true := by decide
theorem witness_stepKeepsInvariant : Inv State.reset ∧ ∃ t, step State.reset = .next t := ⟨reset_inv, _, rfl⟩
theorem witness_noAccessOutsideBuffers : Inv State.reset := reset_inv
theorem witness_parametersAreFixed : ∃ t, step (quiet .top []) = .next t := ⟨_, rfl⟩
theorem witness_transmittedBytesStay : ∃ t, step { at' .txByte with len := 1 } = .next t ∧ t.txStream ≠ [] :=
  ⟨_, rfl, by decide⟩
theorem witness_resetCycleRule : ({ rst := true } : CycleIn).rst = true := rfl
theorem witness_inputsReadOnlyWhereRuled :
    ({ start := false, transportOk := true } : CycleIn).start = ({ start := false, shutdown := true } : CycleIn).start ∧
      (quiet .stopped []).st = .stopped ∧ ({ shutdown := true, start := true } : CycleIn).shutdown = ({ shutdown := true } : CycleIn).shutdown ∧
      (quiet .top []).st = .top ∧ ({ bldDone := false, bldLen := 9 } : CycleIn).bldDone = ({} : CycleIn).bldDone ∧
      (quiet .build []).st = .build ∧ ({ txReady := true, start := true } : CycleIn).txReady = ({ txReady := true } : CycleIn).txReady ∧
      (quiet .txByte []).st = .txByte := by decide
theorem witness_syncEventMarksChanges : ∃ t, clockOn {} (quiet .reqWait [0x00]) = .ok t ∧ t.outs.syncEvent = true :=
  ⟨_, rfl, by decide⟩
theorem witness_syncStateTransitions :
    (∃ t, clockOn {} (quiet .reqWait []) = .ok t ∧ t.st = .top) ∧
      (∃ t, clockOn {} { quiet .reqId [0xFF] with sync := .syncing } = .ok t ∧ t.st ≠ .reqId) ∧
      (∃ t, clockOn { start := true, transportOk := true } { quiet .stopped [] with sync := .syncing } = .ok t ∧ t.st = .top) ∧
      ∃ t, clockOn {} (quiet .top []) = .ok t ∧ t.st = .reqWait :=
  ⟨⟨_, rfl, by decide⟩, ⟨_, rfl, by decide⟩, ⟨_, rfl, by decide⟩, ⟨_, rfl, by decide⟩⟩
theorem witness_timerCountsOneWaitDown :
    (∃ t, clockOn {} (quiet .top []) = .ok t ∧ t.timer = ex.cTimeout) ∧
      (∃ t, clockOn {} { quiet .txGap [] with timer := 1 } = .ok t ∧ t.st = .txGap ∧ t.timer = 0) ∧
      ∃ t, clockOn {} (quiet .rfSettle []) = .ok t ∧ t.st = .rfPoll :=
  ⟨⟨_, rfl, by decide⟩, ⟨_, rfl, by decide, by decide⟩, ⟨_, rfl, by decide⟩⟩
theorem witness_bytesWrittenOnlyInTxByte :
    (∃ t, clockOn { txReady := true } { at' .txByte with len := 1 } = .ok t) ∧ ∃ t, clockOn {} { at' .txByte with len := 1 } = .ok t :=
  ⟨⟨_, rfl⟩, ⟨_, rfl⟩⟩
theorem witness_atMostOneBytePopped :
    (∃ t, clockOn {} (quiet .reqId [0x09]) = .ok t ∧ t.outs.rxPop = true) ∧
      (∃ t, clockOn {} (quiet .txDrain [0x09]) = .ok t ∧ t.outs.rxPop = false) ∧
      ∃ t, clockOn { txReady := true } { at' .txByte with len := 1, echo := true } = .ok t ∧ t.rxQueue = [0x00] :=
  ⟨⟨_, rfl, by decide⟩, ⟨_, rfl, by decide⟩, ⟨_, rfl, by decide⟩⟩
theorem witness_buffersChangeOnlyByTheirWriters :
    (∃ t, clockOn { bldWe := true, bldAddr := 7, bldWdata := 1 } (quiet .build []) = .ok t ∧ t.txbuf = [(7, 1)]) ∧
      ∃ t, clockOn {} { quiet .rfScan [9] with rxCount := 5 } = .ok t ∧ t.rxbuf = [(5, 9)] :=
  ⟨⟨_, rfl, by decide⟩, ⟨_, rfl, by decide⟩⟩
theorem witness_faultsArePrecise :
    (∃ t, clockOn {} { quiet .rfTrail [9] with rxCount := 6 } = .ok t ∧ t.faultCode = .rxOverrun) ∧
      (∃ t, clockOn { bldWe := true, bldAddr := 8 } (quiet .build []) = .ok t ∧ t.faultCode = .buildAddr) ∧
      (∃ t, clockOn { bldDone := true, bldLen := 9 } (quiet .build []) = .ok t ∧ t.faultCode = .txLength) ∧
      ∃ t, clockOn { bldDone := true, bldLen := 8 } (quiet .build []) = .ok t ∧ t.faultCode = .none :=
  ⟨⟨_, rfl, by decide⟩, ⟨_, rfl, by decide⟩, ⟨_, rfl, by decide⟩, ⟨_, rfl, by decide⟩⟩
theorem witness_onlyResetLeavesFault :
    (quiet .fault [1]).st = .fault ∧ NoReset (quiet .fault [1]) ∧ ∃ t, step (quiet .fault [1]) = .next t :=
  ⟨rfl, quiet_noReset _ _, _, rfl⟩
theorem witness_unboundedWaitsHold :
    waitingIn {} (quiet .reqId []) = true ∧ waitingIn {} (quiet .rfScan []) = true ∧ waitingIn {} (quiet .rfTrail []) = true ∧
      waitingIn {} (quiet .build []) = true ∧ waitingIn {} (quiet .txByte []) = true := by decide
theorem witness_readPortShowsRxbuf :
    (∃ t, clockOn { rfRaddr := 5 } { quiet .stopped [] with rxbuf := [(5, 0x22)] } = .ok t ∧ t.outs.rfRdata = 0x22) ∧
      ∃ t, clockOn { rfRaddr := 6 } (quiet .stopped []) = .ok t ∧ t.outs.rfRdata = 0 :=
  ⟨⟨_, rfl, by decide⟩, ⟨_, rfl, by decide⟩⟩
theorem witness_buildCycleRule :
    (quiet .build []).st = .build ∧ ex.txCapacity ≤ bldAddrOf { bldWe := true, bldAddr := 8 } (quiet .build []) ∧
      ex.txCapacity < bldLenOf { bldDone := true, bldLen := 9 } (quiet .build []) ∧
      ¬ex.txCapacity ≤ bldAddrOf { bldWe := true, bldAddr := 7 } (quiet .build []) ∧
      ¬ex.txCapacity < bldLenOf { bldDone := true, bldLen := 8 } (quiet .build []) := by decide
theorem witness_byteWinsOverTimeout :
    (quiet .reqWait [0xF8]).rxQueue = ex.sentinel :: [] ∧ (quiet .reqWait [0xF7]).rxQueue = 0xF7 :: [] ∧
      (0xF7 : Byte) ≠ ex.sentinel ∧ (quiet .reqWait []).timer = 0 ∧
      0 < ({ quiet .reqWait [] with timer := 1 } : State).timer := by decide
theorem witness_stoppedCycleRule :
    (quiet .stopped []).st = .stopped ∧ ({ start := true, transportOk := true } : CycleIn).rst = false ∧
      ({ start := true } : CycleIn).transportOk = false ∧ ({ recvCmd := true } : CycleIn).start = false ∧
      ({} : CycleIn).recvCmd = false := by decide
theorem witness_receptionCycleRules :
    (quiet .rfSettle []).timer = 0 ∧ 0 < ({ quiet .rfSettle [] with timer := 1 } : State).timer ∧
      (beginCycle {} (quiet .rfPoll [9])).rxQueue ≠ [] ∧ (beginCycle {} (quiet .rfPoll [])).rxQueue = [] ∧
      (beginCycle {} (quiet .rfScan [0x7D])).rxQueue = 0x7D :: [] ∧
      ({ quiet .rfScan [0x7D] with rxCount := 5 } : State).rxCount < ex.rxCapacity ∧
      ({ quiet .rfTrail [0x7D] with rxCount := 6 } : State).rxCount = ex.rxCapacity := by decide
theorem witness_transmissionCycleRules :
    (quiet .txSettle []).timer = 0 ∧ (quiet .txSettle []).len = 0 ∧
      0 < ({ quiet .txSettle [] with len := 1 } : State).len ∧
      0 < ({ quiet .txGap [] with timer := 1 } : State).timer ∧
      ({ quiet .txByte [] with len := 8, idx := 7 } : State).idx = 8 - 1 ∧
      ({ quiet .txByte [] with len := 8, idx := 6 } : State).idx < 8 ∧ 8 ≤ ex.txCapacity ∧
      0 < ({ quiet .txDrain [1] with drainRem := 1 } : State).drainRem ∧ (beginCycle {} (quiet .txDrain [1])).rxQueue ≠ [] ∧
      (quiet .txDrain [1]).drainRem = 0 := by decide
theorem witness_finalizeWritesSumModulo256 :
    (at' .stopped).args.buffer = [] ∧
      ({ at' .stopped with args := { buffer := [0xFF, 0x02, 0x33] } } : State).args.buffer = [0xFF, 0x02] ++ [0x33] ∧
      (0x01 : Byte) = BitVec.ofNat 8 (([0xFF, 0x02].map (BitVec.toNat (w := 8))).sum) := by decide
theorem witness_finalizeIsIdempotent :
    ∃ t, exec .finalize { at' .stopped with args := { buffer := [7] } } = .next t := ⟨_, rfl⟩
theorem witness_startEntersLoop : (quiet .stopped []).thisInput.rst = false ∧ (quiet .stopped []).thisInput.transportOk = true :=
  ⟨rfl, rfl⟩
theorem witness_startReportsClosedTransport :
    State.reset.st = .stopped ∧ State.reset.thisInput.rst = false ∧ State.reset.thisInput.transportOk = false := ⟨rfl, rfl, rfl⟩
theorem witness_startIgnoredWhileBusy : (quiet .reqWait []).st ≠ .stopped := by decide
/-- Both bytes queued at entry (`j = 0`, `k = 1`), a third behind them. -/
theorem witness_awaitReturnsModule :
    (quiet .top [0xF8, 0xFF, 0x01]).st = .top ∧ NoReset (quiet .top [0xF8, 0xFF, 0x01]) ∧
      RequestHeard (quiet .top [0xF8, 0xFF, 0x01]) 0 0 1 0xFF [0x01] :=
  ⟨rfl, quiet_noReset _ _, by decide, by decide, by decide, by decide, by decide, by decide⟩
/-- V29 and V32 together: the mode byte in the last cycle of the window, the module byte after one silent cycle. -/
theorem witness_awaitReturnsModule_late :
    NoReset (hearing .top (List.replicate 10 [] ++ [[0xF8], [], [0x01, 0x09]])) ∧
      RequestHeard (hearing .top (List.replicate 10 [] ++ [[0xF8], [], [0x01, 0x09]])) 0 10 12 0x01 [0x09] :=
  ⟨⟨rfl, by decide⟩, by decide, by decide, by decide, by decide, by decide, by decide⟩
theorem witness_awaitReturnsInvalid :
    NoReset (quiet .top [0x00, 0xF8]) ∧ heardBy 1 (quiet .top [0x00, 0xF8]) = 0x00 :: [0xF8] ∧ (0x00 : Byte) ≠ ex.sentinel :=
  ⟨quiet_noReset _ _, by decide, by decide⟩
theorem witness_awaitReturnsInvalid_late :
    10 ≤ ex.cTimeout ∧ heardBy 10 (hearing .top (List.replicate 10 [] ++ [[0xF7, 0xF8]])) = [] ∧
      heardBy 11 (hearing .top (List.replicate 10 [] ++ [[0xF7, 0xF8]])) = 0xF7 :: [0xF8] ∧ (0xF7 : Byte) ≠ ex.sentinel := by
  decide
/-- The first byte comes one cycle after the window. -/
theorem witness_awaitTimesOut :
    NoReset (hearing .top (List.replicate 11 [] ++ [[0xF8]])) ∧
      heardBy (ex.cTimeout + 1) (hearing .top (List.replicate 11 [] ++ [[0xF8]])) = [] :=
  ⟨⟨rfl, by decide⟩, by decide⟩
theorem witness_awaitWaitsForModuleByte :
    NoReset (quiet .top [0xF8]) ∧ SilentLine (quiet .top [0xF8]) ∧ (quiet .top [0xF8]).rxQueue = [ex.sentinel] :=
  ⟨quiet_noReset _ _, quiet_silent _ _, rfl⟩
/-- A frame that fills `rxbuf`, queued at entry. -/
theorem witness_recvFrameReturnsFrame :
    NoReset (quiet .stopped [1, 2, 3, 4, 0x7D, 9]) ∧ (quiet .stopped [1, 2, 3, 4, 0x7D, 9]).thisInput.start = false ∧
      PollHears (quiet .stopped [1, 2, 3, 4, 0x7D, 9]) 0 ∧
      splitFrame ex (heardBy 0 (quiet .stopped [1, 2, 3, 4, 0x7D, 9])) = some ([1, 2, 3, 4, 0x7D, 9], []) ∧
      [1, 2, 3, 4, 0x7D, 9].length ≤ ex.rxCapacity :=
  ⟨quiet_noReset _ _, rfl, ⟨by decide, by decide, by decide⟩, by decide, by decide⟩
/-- V42: the line is silent until cycle 14, the last poll cycle; here the trailing byte comes two cycles later. -/
theorem witness_recvFrameReturnsFrame_late :
    NoReset (hearing .stopped (List.replicate 13 [] ++ [[0x7D], [], [0x01, 0x02]])) ∧
      PollHears (hearing .stopped (List.replicate 13 [] ++ [[0x7D], [], [0x01, 0x02]])) 10 ∧
      splitFrame ex (heardBy 16 (hearing .stopped (List.replicate 13 [] ++ [[0x7D], [], [0x01, 0x02]]))) =
        some ([0x7D, 0x01], [0x02]) :=
  ⟨⟨rfl, by decide⟩, ⟨by decide, by decide, by decide⟩, by decide⟩
theorem witness_recvFrameTimesOut :
    NoReset (hearing .stopped (List.replicate 14 [] ++ [[0x7D]])) ∧
      (hearing .stopped (List.replicate 14 [] ++ [[0x7D]])).thisInput.start = false ∧
      heardBy (ex.cRxSettle + ex.cTimeout + 3) (hearing .stopped (List.replicate 14 [] ++ [[0x7D]])) = [] :=
  ⟨⟨rfl, by decide⟩, rfl, by decide⟩
/-- The terminator is the last byte that fits; the trailing byte, which does not, comes a cycle later. -/
theorem witness_recvFrameOverruns :
    NoReset (hearing .stopped [[1, 2, 3, 4, 5, 0x7D], [9]]) ∧
      (hearing .stopped [[1, 2, 3, 4, 5, 0x7D], [9]]).thisInput.start = false ∧
      PollHears (hearing .stopped [[1, 2, 3, 4, 5, 0x7D], [9]]) 0 ∧
      ex.rxCapacity < (heardBy 2 (hearing .stopped [[1, 2, 3, 4, 5, 0x7D], [9]])).length ∧
      ∀ frame rest, splitFrame ex (heardBy 2 (hearing .stopped [[1, 2, 3, 4, 5, 0x7D], [9]])) = some (frame, rest) →
        ex.rxCapacity < frame.length := by
  refine ⟨⟨rfl, by decide⟩, rfl, ⟨by decide, by decide, by decide⟩, by decide, ?_⟩
  intro frame rest h
  have e : splitFrame ex (heardBy 2 (hearing .stopped [[1, 2, 3, 4, 5, 0x7D], [9]])) =
    some ([1, 2, 3, 4, 5, 0x7D, 9], []) := by decide
  rw [e] at h
  injection h with h
  injection h with h1 h2
  subst h1
  decide
theorem witness_recvCmdCountsOnlyInStopped : (quiet .top []).st ≠ .stopped ∧ ({ start := true } : CycleIn).start = true := by
  decide

/-- A BUILD state with an operand for TRANSMIT. -/
def sending (n : Nat) : State := { quiet .build [] with args := { length := n } }

/-- Such a state with a builder write in the cycle that invokes TRANSMIT, and a transport that stalls in the cycles after it. -/
def stalling (n : Nat) : State :=
  { sending n with
    inputs := [{ bldWe := true, bldAddr := 7, bldWdata := 0x42, txReady := true }, { rx := [0x55] }, {}, {}, {}] }

theorem witness_transmitSendsFrame :
    NoReset (stalling 8) ∧ (stalling 8).held.txReady = true ∧ WritesInside (stalling 8).thisInput (stalling 8) ∧
      (stalling 8).thisInput.bldWe = true ∧ transmitLength (stalling 8) = 8 ∧ 8 ≤ ex.txCapacity :=
  ⟨⟨rfl, by decide⟩, rfl, fun _ => by decide, rfl, by decide, by decide⟩
theorem witness_transmitDrainsAtMostLength :
    NoReset (stalling 1) ∧ (stalling 1).held.txReady = true ∧ WritesInside (stalling 1).thisInput (stalling 1) ∧
      transmitLength (stalling 1) = 1 ∧ (stalling 1).echo = false ∧ ({ stalling 1 with echo := true } : State).echo = true :=
  ⟨⟨rfl, by decide⟩, rfl, fun _ => by decide, by decide, rfl, rfl⟩
theorem witness_transmitOfNothing :
    NoReset (stalling 0) ∧ WritesInside (stalling 0).thisInput (stalling 0) ∧ transmitLength (stalling 0) = 0 :=
  ⟨⟨rfl, by decide⟩, fun _ => by decide, by decide⟩
theorem witness_transmitTooLongFaults :
    (stalling 9).thisInput.rst = false ∧ WritesInside (stalling 9).thisInput (stalling 9) ∧
      ex.txCapacity < transmitLength (stalling 9) :=
  ⟨rfl, fun _ => by decide, by decide⟩
theorem witness_byteTimesOfAFrame :
    NoReset (quiet .build []) ∧ ReadyTransport (quiet .build []) ∧ 1 ≤ 8 ∧ 8 ≤ ex.txCapacity ∧ 7 < 8 :=
  ⟨quiet_noReset _ _, quiet_ready _ _, by decide, by decide, by decide⟩
theorem witness_iterateExitsOnShutdown :
    ({ at' .top with held := { shutdown := true } } : State).thisInput.shutdown = true ∧
      ({ at' .top with held := { shutdown := true } } : State).thisInput.rst = false := ⟨rfl, rfl⟩
theorem witness_iterateResyncsOnSilence :
    NoReset (hearing .top (List.replicate 12 [] ++ [[0xF8]])) ∧
      (hearing .top (List.replicate 12 [] ++ [[0xF8]])).thisInput.shutdown = false ∧
      heardBy (ex.cTimeout + 2) (hearing .top (List.replicate 12 [] ++ [[0xF8]])) = [] :=
  ⟨⟨rfl, by decide⟩, rfl, by decide⟩
/-- B-EX meets the builder's duty for the EAM frame. -/
theorem eamAnswers_duty : BuilderDuty 8 5 eamAnswers where
  inside := by decide
  complete := by
    have bounded : ∀ k < 4, ∃ i ∈ eamAnswers, i.bldWe = true ∧ i.bldAddr = k := by decide
    exact fun k hk => bounded k (by omega)
  done := ⟨eamAnswers.dropLast, eamAnswers.getLast (by decide), by decide, by decide, by decide, by decide⟩

/-- A builder that writes the last byte of `txbuf` too, outside its frame of 4 bytes, and takes its time. -/
def looseAnswers : List CycleIn := { bldWe := true, bldAddr := 7, bldWdata := 0x77 } :: {} :: gpsAnswers

theorem looseAnswers_duty : BuilderDuty 8 4 looseAnswers where
  inside := by decide
  complete := by
    have bounded : ∀ k < 3, ∃ i ∈ looseAnswers, i.bldWe = true ∧ i.bldAddr = k := by decide
    exact fun k hk => bounded k (by omega)
  done := ⟨looseAnswers.dropLast, looseAnswers.getLast (by decide), by decide, by decide, by decide, by decide⟩

/-- A poll for module `m` in the `TOP` cycle, and what the builder does. -/
def polled (m : Byte) (answers : List CycleIn) : State :=
  { quiet .top [] with inputs := { rx := [0xF8] } :: {} :: { rx := [m] } :: (answers ++ []) }

theorem witness_iterateAnswersPoll :
    (polled 0x01 eamAnswers).cfg.ok = true ∧ NoReset (polled 0x01 eamAnswers) ∧ (polled 0x01 eamAnswers).held.txReady = true ∧
      (polled 0x01 eamAnswers).thisInput.shutdown = false ∧ RequestHeard (polled 0x01 eamAnswers) 1 0 1 0x01 [] ∧
      BuilderDuty ex.txCapacity ex.lenEam eamAnswers :=
  ⟨by decide, ⟨rfl, by decide⟩, rfl, rfl, ⟨by decide, by decide, by decide, by decide, by decide, by decide⟩, eamAnswers_duty⟩
theorem witness_iterateAnswersPoll_gps :
    NoReset (polled 0x02 looseAnswers) ∧ RequestHeard (polled 0x02 looseAnswers) 1 0 1 0x02 [] ∧
      BuilderDuty ex.txCapacity ex.lenGps looseAnswers :=
  ⟨⟨rfl, by decide⟩, ⟨by decide, by decide, by decide, by decide, by decide, by decide⟩, looseAnswers_duty⟩
theorem witness_reqEamSendsOneFrame :
    ∃ s : State, s.cfg.ok = true ∧ s.st = .reqId ∧ NoReset s ∧ s.held.txReady = true ∧ s.inputs = eamAnswers ++ stalls ∧
      BuilderDuty s.cfg.txCapacity s.cfg.lenEam eamAnswers :=
  ⟨{ quiet .reqId [] with inputs := eamAnswers ++ stalls }, by decide, rfl, ⟨rfl, by decide⟩, rfl, rfl, eamAnswers_duty⟩
theorem witness_reqGpsSendsOneFrame :
    ∃ s : State, s.cfg.ok = true ∧ s.st = .reqId ∧ NoReset s ∧ s.held.txReady = true ∧ s.inputs = looseAnswers ++ stalls ∧
      BuilderDuty s.cfg.txCapacity s.cfg.lenGps looseAnswers :=
  ⟨{ quiet .reqId [] with inputs := looseAnswers ++ stalls }, by decide, rfl, ⟨rfl, by decide⟩, rfl, rfl, looseAnswers_duty⟩
theorem witness_reqUnknownIsSkipped : (quiet .reqId []).st = .reqId := rfl
theorem witness_reqInvalidResyncs : (quiet .reqWait []).st = .reqWait := rfl
theorem witness_ignoredWhereNotInvoked :
    (quiet .fault []).st ≠ .top ∧ isAwait (quiet .fault []).st = false ∧ (quiet .fault []).st ≠ .stopped ∧
      isRecv (quiet .fault []).st = false ∧ (quiet .fault []).st ≠ .build ∧ isTransmit (quiet .fault []).st = false ∧
      inIteration (quiet .fault []).st = false ∧ (quiet .fault []).st ≠ .reqId ∧ (quiet .fault []).st ≠ .reqWait := by decide
theorem witness_operationsEndOrWait :
    Inv { State.reset with st := .top, rxQueue := [0xF8] } ∧
      ∃ t, exec .await { State.reset with st := .top, rxQueue := [0xF8] } = .next t ∧ isAwait t.st = true := by
  refine ⟨?_, _, rfl, by decide⟩
  refine ⟨by decide, fits_nil _, fits_nil _, by decide, by decide, by decide, ?_, by decide, by decide, ?_, by decide, by decide,
    ?_, ?_⟩ <;> simp [State.reset, State.resetWith]
theorem witness_shutdownLatencyOnSilence :
    ∃ s : State, (s.st = .top ∨ s.st = .reqWait) ∧ s.timer ≤ s.cfg.cTimeout ∧ NoReset s ∧
      heardBy (s.cfg.cTimeout + 2) s = [] ∧ allInputs (fun i => i.shutdown = true) s :=
  ⟨{ at' .reqWait with timer := 10, held := { shutdown := true } }, .inr rfl, by decide, ⟨rfl, by decide⟩, by decide,
    ⟨rfl, by decide⟩⟩
end Sys2Proof.Tests
end

section
/-! PROOFS of the family 10_state.md: `running` (R23), and `sync` with its event pulse (R24). -/

namespace Sys2Proof.Machine

/-! ## `running` -/

/-- The states `isRecv` names (R18). -/
theorem isRecv_iff (st : St) :
    isRecv st = true ↔ st = .rfSettle ∨ st = .rfPoll ∨ st = .rfScan ∨ st = .rfTrail := by
  cases st <;> simp [isRecv]

/-- The loop runs outside `STOPPED`, `FAULT` and RECV_FRAME (R23). -/
theorem running_iff (s : State) :
    s.running = true ↔ s.st ≠ .stopped ∧ s.st ≠ .fault ∧ isRecv s.st ≠ true := by
  simp [State.running, and_assoc]

/-- Settles O18: R23's list is `STOPPED`, `FAULT` and the states of RECV_FRAME. -/
theorem runningWhileTheLoopRuns : Obligations.RunningWhileTheLoopRuns := by
  unfold Obligations.RunningWhileTheLoopRuns
  intro s
  simp only [running_iff, isRecv_iff, ne_eq, not_or]

/-! ## Cycles that leave `sync` and its event wire alone -/

/-- `sync` and the wire `sync_event` are as they were. -/
structure KeepsSync (s t : State) : Prop where
  sync : t.sync = s.sync
  syncEvent : t.outs.syncEvent = s.outs.syncEvent

theorem KeepsSync.refl (s : State) : KeepsSync s s := ⟨rfl, rfl⟩

theorem ruleTop_keepsSync (i : CycleIn) (s : State) : KeepsSync s (ruleTop i s) := by
  unfold ruleTop
  split <;> exact ⟨rfl, rfl⟩

theorem ruleBuild_keepsSync {i : CycleIn} {s t : State} (h : ruleBuild i s = .ok t) : KeepsSync s t := by
  obtain ⟨-, -, rfl⟩ | ⟨-, -, -, rfl⟩ | ⟨u, hwrite, hdone⟩ := ruleBuild_cases h
  · exact ⟨rfl, rfl⟩
  · exact ⟨rfl, rfl⟩
  · have hu : KeepsSync s u := by
      obtain ⟨-, -, rfl⟩ | ⟨-, rfl⟩ := hwrite <;> exact ⟨rfl, rfl⟩
    obtain ⟨-, -, rfl⟩ | ⟨-, rfl⟩ := hdone
    · exact ⟨hu.sync, hu.syncEvent⟩
    · exact hu

theorem ruleTxSettle_keepsSync (s : State) : KeepsSync s (ruleTxSettle s) := by
  unfold ruleTxSettle
  repeat' split
  all_goals exact ⟨rfl, rfl⟩

theorem ruleTxByte_keepsSync {i : CycleIn} {s t : State} (h : ruleTxByte i s = .ok t) : KeepsSync s t := by
  obtain ⟨-, rfl⟩ | ⟨-, -, -, rfl⟩ | ⟨-, -, -, rfl⟩ := ruleTxByte_cases h <;> exact ⟨rfl, rfl⟩

theorem ruleTxGap_keepsSync (s : State) : KeepsSync s (ruleTxGap s) := by
  unfold ruleTxGap
  repeat' split
  all_goals exact ⟨rfl, rfl⟩

theorem ruleTxDrain_keepsSync (s : State) : KeepsSync s (ruleTxDrain s) := by
  unfold ruleTxDrain
  repeat' split
  all_goals exact ⟨rfl, rfl⟩

theorem ruleRfSettle_keepsSync (s : State) : KeepsSync s (ruleRfSettle s) := by
  unfold ruleRfSettle
  split <;> exact ⟨rfl, rfl⟩

theorem ruleRfPoll_keepsSync (s : State) : KeepsSync s (ruleRfPoll s) := by
  obtain ⟨-, e⟩ | ⟨-, -, e⟩ | ⟨-, -, e⟩ := ruleRfPoll_cases s <;> rw [e] <;> exact ⟨rfl, rfl⟩

theorem ruleRfScan_keepsSync {s t : State} (h : ruleRfScan s = .ok t) : KeepsSync s t := by
  obtain ⟨-, rfl⟩ | ⟨-, -, rfl⟩ | ⟨_, _, -, -, rfl⟩ := ruleRfScan_cases h <;> exact ⟨rfl, rfl⟩

theorem ruleRfTrail_keepsSync {s t : State} (h : ruleRfTrail s = .ok t) : KeepsSync s t := by
  obtain ⟨-, rfl⟩ | ⟨-, -, rfl⟩ | ⟨_, _, -, -, rfl⟩ := ruleRfTrail_cases h <;> exact ⟨rfl, rfl⟩

/-- The states `isAwait` names (R18). -/
theorem isAwait_iff (st : St) : isAwait st = true ↔ st = .reqWait ∨ st = .reqId := by
  cases st <;> simp [isAwait]

/-- Only `STOPPED` (START) and the AWAIT states write `sync` or pulse its event (R116). -/
theorem cycleRule_keepsSync {i : CycleIn} {s t : State} (hstopped : s.st ≠ .stopped) (hawait : isAwait s.st = false)
    (h : cycleRule i s = .ok t) : KeepsSync s t := by
  unfold cycleRule at h
  cases hst : s.st <;> simp only [hst, Except.ok.injEq] at h
  case stopped => exact absurd hst hstopped
  case reqWait => simp [hst, isAwait] at hawait
  case reqId => simp [hst, isAwait] at hawait
  case top => exact h ▸ ruleTop_keepsSync i s
  case build => exact ruleBuild_keepsSync h
  case txSettle => exact h ▸ ruleTxSettle_keepsSync s
  case txByte => exact ruleTxByte_keepsSync h
  case txGap => exact h ▸ ruleTxGap_keepsSync s
  case txDrain => exact h ▸ ruleTxDrain_keepsSync s
  case rfSettle => exact h ▸ ruleRfSettle_keepsSync s
  case rfPoll => exact h ▸ ruleRfPoll_keepsSync s
  case rfScan => exact ruleRfScan_keepsSync h
  case rfTrail => exact ruleRfTrail_keepsSync h
  case fault => exact h ▸ KeepsSync.refl s

/-- `STOPPED` drives no wire: a START's reinitialisation of `sync` is no event (R24, R118). -/
theorem ruleStopped_outs (i : CycleIn) (s : State) : (ruleStopped i s).outs = s.outs := by
  unfold ruleStopped
  repeat' split
  all_goals rfl

/-! ## Cycles that mark a change of `sync` -/

/-- `sync_event` stands exactly if `sync` has changed, and has then been recorded as one event (R24, R144). -/
structure MarksSync (s t : State) : Prop where
  pulse : t.outs.syncEvent = true ↔ t.sync ≠ s.sync
  recorded : t.outs.syncEvent = true → t.events = s.events ++ [.sync]

/-- With the wire low before, keeping `sync` and the wire marks no change. -/
theorem KeepsSync.marksSync {s t : State} (keeps : KeepsSync s t) (low : s.outs.syncEvent = false) : MarksSync s t where
  pulse := by simp [keeps.sync, keeps.syncEvent, low]
  recorded := by simp [keeps.syncEvent, low]

/-- The bytes taken off the RX queue play no part. -/
theorem MarksSync.of_popRx {s t : State} (h : MarksSync (popRx s) t) : MarksSync s t := ⟨h.pulse, h.recorded⟩

theorem loseSync_marksSync {s : State} (low : s.outs.syncEvent = false) : MarksSync s (loseSync s) := by
  constructor <;> cases hs : s.sync <;> simp [loseSync_outs, loseSync_events, hs, low]

theorem regainSync_marksSync {s : State} (low : s.outs.syncEvent = false) : MarksSync s (regainSync s) := by
  constructor <;> cases hs : s.sync <;> simp [regainSync_outs, regainSync_events, hs, low]

/-- A resync records its outcome around `loseSync` (R124). -/
theorem resync_marksSync (o : Resync) {s : State} (low : s.outs.syncEvent = false) : MarksSync s (resync o s) :=
  have h : MarksSync { s with lastResult := resyncResult o } (loseSync { s with lastResult := resyncResult o }) :=
    loseSync_marksSync low
  ⟨h.pulse, h.recorded⟩

/-- A reconnect records the ModuleId around `regainSync` (R125). -/
theorem reconnect_marksSync (m : Byte) {s : State} (low : s.outs.syncEvent = false) : MarksSync s (reconnect m s) :=
  have h : MarksSync { s with modId := m, lastResult := .moduleId, lastModule := m } (reconnect m s) :=
    regainSync_marksSync low
  ⟨h.pulse, h.recorded⟩

/-- `REQ_WAIT` marks a change: it resyncs, or does not touch `sync` (R83, R124). -/
theorem ruleReqWait_marksSync {s : State} (low : s.outs.syncEvent = false) : MarksSync s (ruleReqWait s) := by
  obtain ⟨_, -, e⟩ | ⟨_, _, -, -, e⟩ | ⟨-, -, e⟩ | ⟨-, -, e⟩ := ruleReqWait_cases s <;> rw [e]
  · exact KeepsSync.marksSync ⟨rfl, rfl⟩ low
  · exact (resync_marksSync .invalid (s := popRx s) low).of_popRx
  · exact resync_marksSync .timeout low
  · exact KeepsSync.marksSync ⟨rfl, rfl⟩ low

/-- `REQ_ID` marks a change: it reconnects, whatever the module, or waits (R84, R125, R126). -/
theorem ruleReqId_marksSync {s : State} (low : s.outs.syncEvent = false) : MarksSync s (ruleReqId s) := by
  obtain ⟨m, _, -, e⟩ | ⟨-, e⟩ := ruleReqId_cases s <;> rw [e]
  · have h : MarksSync s (reconnect m (popRx s)) := (reconnect_marksSync m (s := popRx s) low).of_popRx
    rw [dispatchModule_eq]
    exact ⟨h.pulse, h.recorded⟩
  · exact (KeepsSync.refl s).marksSync low

/-- Outside `STOPPED` every rule marks the changes of `sync` (R24). -/
theorem cycleRule_marksSync {i : CycleIn} {s t : State} (low : s.outs.syncEvent = false) (hstopped : s.st ≠ .stopped)
    (h : cycleRule i s = .ok t) : MarksSync s t := by
  cases hawait : isAwait s.st with
  | false => exact (cycleRule_keepsSync hstopped hawait h).marksSync low
  | true =>
    obtain hst | hst := (isAwait_iff s.st).mp hawait <;> simp only [cycleRule, hst, Except.ok.injEq] at h
    · exact h ▸ ruleReqWait_marksSync low
    · exact h ▸ ruleReqId_marksSync low

/-! ## A clock cycle and `sync_event` -/

/-- A reset cycle pulses nothing (R167). -/
theorem clockOn_reset_syncEvent {i : CycleIn} {s t : State} (hrst : i.rst = true) (h : clockOn i s = .ok t) :
    t.outs.syncEvent = false := by
  rw [clockOn_reset hrst, Except.ok.injEq] at h
  simp [← h]

/-- A cycle of `STOPPED` pulses no `sync_event`, a START included (R24). -/
theorem clockOn_stopped_syncEvent {i : CycleIn} {s t : State} (hrst : i.rst = false) (hst : s.st = .stopped)
    (h : clockOn i s = .ok t) : t.outs.syncEvent = false := by
  simp only [clockOn_rule hrst, cycleRule, beginCycle_st, hst, Except.ok.injEq] at h
  simp [← h, ruleStopped_outs]

/-- A cycle of any other state marks the changes of `sync`, since each cycle begins with the wire low (R22, R24). -/
theorem clockOn_marksSync {i : CycleIn} {s t : State} (hrst : i.rst = false) (hst : s.st ≠ .stopped)
    (h : clockOn i s = .ok t) : MarksSync s t := by
  rw [clockOn_rule hrst] at h
  have marks : MarksSync (beginCycle i s) t := cycleRule_marksSync (by simp) (by simpa using hst) h
  exact ⟨marks.pulse, marks.recorded⟩

/-- Settles O15: reset and `STOPPED` never pulse, every other cycle pulses exactly for a change. -/
theorem syncEventMarksChanges : Obligations.SyncEventMarksChanges := by
  unfold Obligations.SyncEventMarksChanges
  intro i s t h
  refine and_assoc.mp ⟨?_, rfl, rfl⟩
  cases hrst : i.rst with
  | true => simp [clockOn_reset_syncEvent hrst h]
  | false =>
    by_cases hst : s.st = .stopped
    · simp [clockOn_stopped_syncEvent hrst hst h, hst]
    · have marks : MarksSync s t := clockOn_marksSync hrst hst h
      exact ⟨by simp [marks.pulse, hst], marks.recorded⟩

end Sys2Proof.Machine
end

section
/-! PROOFS of the family 40_codec.md: FINALIZE makes response frames, and is idempotent (R73, R76, R78). -/

namespace Sys2Proof.Machine

/-! ## The list and the sum of FINALIZE -/

@[simp] theorem finalizeChecksum_nil : finalizeChecksum [] = ([], 0x00) := rfl

/-- The last byte takes no part: FINALIZE puts the payload's sum in its place (R73). -/
theorem finalizeChecksum_concat (payload : List Byte) (last : Byte) :
    finalizeChecksum (payload ++ [last]) = (respFrame payload, byteSum payload) := by
  cases payload with
  | nil => rfl
  | cons b rest => simp [finalizeChecksum, respFrame, List.dropLast_cons_of_ne_nil]

/-- A response frame is the frame FINALIZE makes of it: its last byte is not summed (R76). -/
@[simp] theorem finalizeChecksum_respFrame (payload : List Byte) :
    finalizeChecksum (respFrame payload) = (respFrame payload, byteSum payload) :=
  finalizeChecksum_concat payload (byteSum payload)

/-- A response frame passes the receiver's test (R78). -/
@[simp] theorem checksFrame_respFrame (payload : List Byte) : checksFrame (respFrame payload) = true := by
  simp [checksFrame, respFrame]

/-- FINALIZE turns every non-empty list into a response frame and returns that frame's sum (R73). -/
theorem finalizeChecksum_of_ne_nil {buffer : List Byte} (h : buffer ≠ []) :
    ∃ payload, finalizeChecksum buffer = (respFrame payload, byteSum payload) := by
  obtain ⟨payload, last, rfl⟩ := (List.eq_nil_or_concat' buffer).resolve_left h
  exact ⟨payload, finalizeChecksum_concat payload last⟩

/-- The list FINALIZE made gives the same list and the same sum, the empty list included (R76). -/
theorem finalizeChecksum_idempotent (buffer : List Byte) :
    finalizeChecksum (finalizeChecksum buffer).1 = finalizeChecksum buffer := by
  by_cases h : buffer = []
  · simp [h]
  · obtain ⟨payload, made⟩ := finalizeChecksum_of_ne_nil h
    simp [made]

/-- What FINALIZE makes of a non-empty list passes the receiver's test (R78). -/
theorem checksFrame_finalizeChecksum {buffer : List Byte} (h : buffer ≠ []) :
    checksFrame (finalizeChecksum buffer).1 = true := by
  obtain ⟨payload, made⟩ := finalizeChecksum_of_ne_nil h
  simp [made]

/-! ## The operation -/

/-- FINALIZE answers every state, and writes the operand list and the result alone (R73). -/
theorem exec_finalize (s : State) :
    exec .finalize s = .next { s with
      args := { s.args with buffer := (finalizeChecksum s.args.buffer).1 }
      result := .finalize (finalizeChecksum s.args.buffer).2 } := rfl

/-- Settles O33: FINALIZE leaves a response frame, whose checksum it does not sum again. -/
theorem finalizeIsIdempotent : Obligations.FinalizeIsIdempotent := by
  unfold Obligations.FinalizeIsIdempotent
  intro s t h
  rw [exec_finalize, Host.Outcome.next.injEq] at h
  subst h
  refine ⟨checksFrame_finalizeChecksum, ?_⟩
  simp [exec_finalize, finalizeChecksum_idempotent]

end Sys2Proof.Machine
end

section
/-! PROOFS of the family 41_receive.md: the cycle rules of RECV_FRAME (R91 to R94). -/

namespace Sys2Proof.Machine

/-! ## `RF_SETTLE` -/

/-- The delay is over: the poll's window is loaded (R91). -/
theorem ruleRfSettle_over {s : State} (ht : s.timer = 0) :
    ruleRfSettle s = { s with timer := s.cfg.cTimeout, st := .rfPoll } := by
  simp [ruleRfSettle, ht]

theorem ruleRfSettle_counting {s : State} (ht : 0 < s.timer) :
    ruleRfSettle s = { s with timer := s.timer - 1 } := by
  simp [ruleRfSettle, ht.ne']

/-! ## `RF_POLL` -/

/-- An available byte starts the accumulation and stays queued, even where the window has run out (R92, R147). -/
theorem ruleRfPoll_heard {s : State} (hq : s.rxQueue ≠ []) :
    ruleRfPoll s = { s with rxCount := 0, st := .rfScan } := by
  obtain ⟨b, rest, hq⟩ := List.exists_cons_of_ne_nil hq
  simp [ruleRfPoll, hq]

/-- A window that runs out in silence is a Timeout (R92). -/
theorem ruleRfPoll_timeout {s : State} (hq : s.rxQueue = []) (ht : s.timer = 0) :
    ruleRfPoll s = pulseRfDone { s with rfStatus := .timeout, rfLen := 0, st := .stopped } := by
  simp [ruleRfPoll, hq, ht]

theorem ruleRfPoll_counting {s : State} (hq : s.rxQueue = []) (ht : 0 < s.timer) :
    ruleRfPoll s = { s with timer := s.timer - 1 } := by
  simp [ruleRfPoll, hq, ht.ne']

/-! ## `RF_SCAN` and `RF_TRAIL` -/

/-- A store below the capacity always succeeds (R37). -/
theorem bufWriteRx_of_lt {i : Nat} {s : State} (h : i < s.cfg.rxCapacity) (b : Byte) :
    bufWriteRx i b s = .ok { s with rxbuf := s.rxbuf.write i b } :=
  if_pos h

theorem ruleRfScan_empty {s : State} (hq : s.rxQueue = []) : ruleRfScan s = .ok s := by
  simp [ruleRfScan, hq]

/-- A byte that finds `rxbuf` full is an overrun and stays queued (R93). -/
theorem ruleRfScan_overrun {s : State} {b : Byte} {rest : List Byte} (hq : s.rxQueue = b :: rest)
    (hfull : s.rxCount = s.cfg.rxCapacity) : ruleRfScan s = .ok (raiseFault .rxOverrun s) := by
  simp [ruleRfScan, hq, hfull]

/-- A byte that fits is stored and decides whether the trailing byte is next (R93). -/
theorem ruleRfScan_store {s : State} {b : Byte} {rest : List Byte} (hq : s.rxQueue = b :: rest)
    (hfits : s.rxCount < s.cfg.rxCapacity) :
    ruleRfScan s = .ok { popRx s with
      rxbuf := s.rxbuf.write s.rxCount b
      rxCount := s.rxCount + 1
      st := if b = s.cfg.terminator then .rfTrail else .rfScan } := by
  have stored := bufWriteRx_of_lt (s := popRx s) hfits b
  simp only [ruleRfScan, hq, if_neg hfits.ne, stored, scan, beq_iff_eq]
  rfl

theorem ruleRfTrail_empty {s : State} (hq : s.rxQueue = []) : ruleRfTrail s = .ok s := by
  simp [ruleRfTrail, hq]

/-- A trailing byte that finds `rxbuf` full is an overrun and stays queued (R94). -/
theorem ruleRfTrail_overrun {s : State} {b : Byte} {rest : List Byte} (hq : s.rxQueue = b :: rest)
    (hfull : s.rxCount = s.cfg.rxCapacity) : ruleRfTrail s = .ok (raiseFault .rxOverrun s) := by
  simp [ruleRfTrail, hq, hfull]

/-- A trailing byte that fits is stored, whatever it is, and the frame is reported (R94, R96). -/
theorem ruleRfTrail_store {s : State} {b : Byte} {rest : List Byte} (hq : s.rxQueue = b :: rest)
    (hfits : s.rxCount < s.cfg.rxCapacity) :
    ruleRfTrail s = .ok (pulseRfDone { popRx s with
      rxbuf := s.rxbuf.write s.rxCount b
      rxCount := s.rxCount + 1
      rfLen := s.rxCount + 1
      rfStatus := .ok
      st := .stopped }) := by
  have stored := bufWriteRx_of_lt (s := popRx s) hfits b
  simp only [ruleRfTrail, hq, if_neg hfits.ne, stored]
  rfl

/-! ## A clock cycle of RECV_FRAME -/

theorem clockOn_rfSettle {i : CycleIn} {s : State} (hrst : i.rst = false) (hst : s.st = .rfSettle) :
    clockOn i s = .ok (ruleRfSettle (beginCycle i s)) := by
  simp [clockOn_rule hrst, cycleRule, hst]

theorem clockOn_rfPoll {i : CycleIn} {s : State} (hrst : i.rst = false) (hst : s.st = .rfPoll) :
    clockOn i s = .ok (ruleRfPoll (beginCycle i s)) := by
  simp [clockOn_rule hrst, cycleRule, hst]

theorem clockOn_rfScan {i : CycleIn} {s : State} (hrst : i.rst = false) (hst : s.st = .rfScan) :
    clockOn i s = ruleRfScan (beginCycle i s) := by
  simp [clockOn_rule hrst, cycleRule, hst]

theorem clockOn_rfTrail {i : CycleIn} {s : State} (hrst : i.rst = false) (hst : s.st = .rfTrail) :
    clockOn i s = ruleRfTrail (beginCycle i s) := by
  simp [clockOn_rule hrst, cycleRule, hst]

/-- Settles O29: each clause is the equation of its state's rule, read at the begun cycle. -/
theorem receptionCycleRules : Obligations.ReceptionCycleRules := by
  unfold Obligations.ReceptionCycleRules
  intro i s hrst
  refine ⟨beginCycle i s, rfl, fun hst => ?settle, fun hst => ?poll, fun hst => ?scan, fun hst => ?trail⟩
  case settle =>
    rw [clockOn_rfSettle hrst hst]
    exact ⟨fun ht => congrArg _ (ruleRfSettle_over ht), fun ht => congrArg _ (ruleRfSettle_counting ht)⟩
  case poll =>
    rw [clockOn_rfPoll hrst hst]
    exact ⟨fun hq => congrArg _ (ruleRfPoll_heard hq), fun hq ht => congrArg _ (ruleRfPoll_timeout hq ht),
      fun hq ht => congrArg _ (ruleRfPoll_counting hq ht)⟩
  case scan =>
    rw [clockOn_rfScan hrst hst]
    exact ⟨ruleRfScan_empty, fun _ _ hq => ⟨ruleRfScan_overrun hq, ruleRfScan_store hq⟩⟩
  case trail =>
    rw [clockOn_rfTrail hrst hst]
    exact ⟨ruleRfTrail_empty, fun _ _ hq => ⟨ruleRfTrail_overrun hq, ruleRfTrail_store hq⟩⟩

end Sys2Proof.Machine
end

section
/-! PROOFS of the family 42_transmit.md: the cycle rules of TRANSMIT (R103 to R106). -/

namespace Sys2Proof.Machine

/-! ## `TX_SETTLE` -/

/-- An empty frame goes straight to the drain, with nothing to drain (R103). -/
theorem ruleTxSettle_empty {s : State} (ht : s.timer = 0) (hlen : s.len = 0) :
    ruleTxSettle s = { s with idx := 0, csum := 0x00, drainRem := 0, st := .txDrain } := by
  simp [ruleTxSettle, ht, hlen]

/-- The frame starts at its first byte with a checksum of 0 (R103). -/
theorem ruleTxSettle_begin {s : State} (ht : s.timer = 0) (hlen : 0 < s.len) :
    ruleTxSettle s = { s with idx := 0, csum := 0x00, st := .txByte } := by
  simp [ruleTxSettle, ht, hlen.ne']

theorem ruleTxSettle_counting {s : State} (ht : 0 < s.timer) :
    ruleTxSettle s = { s with timer := s.timer - 1 } := by
  simp [ruleTxSettle, ht.ne']

/-! ## `TX_BYTE` -/

/-- Inside the frame the model's test is the spec's `idx = len - 1` (R104, R105; entry 18). -/
theorem atLastByte_iff {s : State} (hidx : s.idx < s.len) : atLastByte s = true ↔ s.idx = s.len - 1 := by
  rw [atLastByte, beq_iff_eq]
  omega

/-- A write below the capacity always succeeds (R37). -/
theorem bufWriteTx_of_lt {i : Nat} {s : State} (h : i < s.cfg.txCapacity) (b : Byte) :
    bufWriteTx i b s = .ok { s with txbuf := s.txbuf.write i b } :=
  if_pos h

/-- A read below the capacity always succeeds (R37). -/
theorem bufReadTx_of_lt {i : Nat} {s : State} (h : i < s.cfg.txCapacity) : bufReadTx i s = .ok (s.txAt i) :=
  if_pos h

theorem ruleTxByte_stalled {i : CycleIn} (hready : i.txReady = false) (s : State) : ruleTxByte i s = .ok s := by
  simp [ruleTxByte, hready]

/-- The last byte sent is the checksum, stored over its slot (R104). -/
theorem ruleTxByte_checksum {i : CycleIn} {s : State} (hready : i.txReady = true) (hidx : s.idx < s.len)
    (hfits : s.len ≤ s.cfg.txCapacity) (hlast : s.idx = s.len - 1) :
    ruleTxByte i s = .ok (txWrite s.csum { s with
      txbuf := s.txbuf.write s.idx s.csum, timer := s.cfg.cInterbyte, st := .txGap }) := by
  have last : atLastByte s = true := (atLastByte_iff hidx).mpr hlast
  have stored := bufWriteTx_of_lt (hidx.trans_le hfits) s.csum
  simp only [ruleTxByte, hready, last, stored, if_true]
  rfl

/-- Every other byte is sent from `txbuf` and added to the checksum (R104). -/
theorem ruleTxByte_payload {i : CycleIn} {s : State} (hready : i.txReady = true) (hidx : s.idx < s.len)
    (hfits : s.len ≤ s.cfg.txCapacity) (hlast : s.idx ≠ s.len - 1) :
    ruleTxByte i s = .ok (txWrite (s.txAt s.idx) { s with
      csum := s.csum + s.txAt s.idx, timer := s.cfg.cInterbyte, st := .txGap }) := by
  have last : atLastByte s = false := Bool.eq_false_iff.mpr (mt (atLastByte_iff hidx).mp hlast)
  have read := bufReadTx_of_lt (hidx.trans_le hfits)
  simp only [ruleTxByte, hready, last, read, if_true]
  rfl

/-! ## `TX_GAP` -/

/-- After the checksum at most as many bytes are drained as were sent (R105). -/
theorem ruleTxGap_last {s : State} (hidx : s.idx < s.len) (ht : s.timer = 0) (hlast : s.idx = s.len - 1) :
    ruleTxGap s = { s with drainRem := s.len, st := .txDrain } := by
  have last : atLastByte s = true := (atLastByte_iff hidx).mpr hlast
  simp [ruleTxGap, ht, last]

/-- After any other byte the next one follows (R105). -/
theorem ruleTxGap_next {s : State} (hidx : s.idx < s.len) (ht : s.timer = 0) (hlast : s.idx ≠ s.len - 1) :
    ruleTxGap s = { s with idx := s.idx + 1, st := .txByte } := by
  have last : atLastByte s = false := Bool.eq_false_iff.mpr (mt (atLastByte_iff hidx).mp hlast)
  simp [ruleTxGap, ht, last]

theorem ruleTxGap_counting {s : State} (ht : 0 < s.timer) : ruleTxGap s = { s with timer := s.timer - 1 } := by
  simp [ruleTxGap, ht.ne']

/-! ## `TX_DRAIN` -/

/-- One available byte is discarded while the drain lasts (R106). -/
theorem ruleTxDrain_discard {s : State} (hrem : 0 < s.drainRem) (hq : s.rxQueue ≠ []) :
    ruleTxDrain s = { popRx s with drainRem := s.drainRem - 1 } := by
  obtain ⟨b, rest, hq⟩ := List.exists_cons_of_ne_nil hq
  simp [ruleTxDrain, hq, hrem]

/-- The drain ends at its count or at the first cycle without a byte, and does not wait (R106). -/
theorem ruleTxDrain_end {s : State} (h : s.drainRem = 0 ∨ s.rxQueue = []) : ruleTxDrain s = { s with st := .top } := by
  unfold ruleTxDrain
  split
  · next hq =>
    have spent : s.drainRem = 0 := h.resolve_right (by simp [hq])
    simp [spent]
  · rfl

/-! ## A clock cycle of TRANSMIT -/

theorem clockOn_txSettle {i : CycleIn} {s : State} (hrst : i.rst = false) (hst : s.st = .txSettle) :
    clockOn i s = .ok (ruleTxSettle (beginCycle i s)) := by
  simp [clockOn_rule hrst, cycleRule, hst]

theorem clockOn_txByte {i : CycleIn} {s : State} (hrst : i.rst = false) (hst : s.st = .txByte) :
    clockOn i s = ruleTxByte i (beginCycle i s) := by
  simp [clockOn_rule hrst, cycleRule, hst]

theorem clockOn_txGap {i : CycleIn} {s : State} (hrst : i.rst = false) (hst : s.st = .txGap) :
    clockOn i s = .ok (ruleTxGap (beginCycle i s)) := by
  simp [clockOn_rule hrst, cycleRule, hst]

theorem clockOn_txDrain {i : CycleIn} {s : State} (hrst : i.rst = false) (hst : s.st = .txDrain) :
    clockOn i s = .ok (ruleTxDrain (beginCycle i s)) := by
  simp [clockOn_rule hrst, cycleRule, hst]

/-- Settles O30: each clause is the equation of its state's rule, read at the begun cycle. -/
theorem transmissionCycleRules : Obligations.TransmissionCycleRules := by
  unfold Obligations.TransmissionCycleRules
  intro i s hrst
  refine ⟨beginCycle i s, rfl, fun hst => ?settle, fun hst hidx hfits => ?byte, fun hst hidx => ?gap,
    fun hst => ?drain⟩
  case settle =>
    rw [clockOn_txSettle hrst hst]
    exact ⟨fun ht hlen => congrArg _ (ruleTxSettle_empty ht hlen),
      fun ht hlen => congrArg _ (ruleTxSettle_begin ht hlen), fun ht => congrArg _ (ruleTxSettle_counting ht)⟩
  case byte =>
    rw [clockOn_txByte hrst hst]
    exact ⟨fun hready => ruleTxByte_stalled hready (beginCycle i s),
      fun hready => ruleTxByte_checksum (s := beginCycle i s) hready hidx hfits,
      fun hready => ruleTxByte_payload (s := beginCycle i s) hready hidx hfits⟩
  case gap =>
    rw [clockOn_txGap hrst hst]
    exact ⟨fun ht hlast => congrArg _ (ruleTxGap_last (s := beginCycle i s) hidx ht hlast),
      fun ht hlast => congrArg _ (ruleTxGap_next (s := beginCycle i s) hidx ht hlast),
      fun ht => congrArg _ (ruleTxGap_counting ht)⟩
  case drain =>
    rw [clockOn_txDrain hrst hst]
    exact ⟨fun hrem hq => congrArg _ (ruleTxDrain_discard hrem hq), fun h => congrArg _ (ruleTxDrain_end h)⟩

end Sys2Proof.Machine
end

section
/-! PROOFS of the family 43_loop.md: the SyncState transitions (R116), the cycle rules of `STOPPED` (R118, R119) and `BUILD`
(R127), and the operation START (R114, R120). -/

namespace Sys2Proof.Machine

/-! ## `STOPPED` -/

/-- START with the transport open enters the loop (R119). -/
theorem ruleStopped_enter {i : CycleIn} (hstart : i.start = true) (hopen : i.transportOk = true) (s : State) :
    ruleStopped i s = { s with sync := .connected, startFailed := false, st := .top } := by
  simp [ruleStopped, hstart, hopen]

/-- START with the transport closed only records its failure (R118). -/
theorem ruleStopped_closed {i : CycleIn} (hstart : i.start = true) (hclosed : i.transportOk = false) (s : State) :
    ruleStopped i s = { s with startFailed := true } := by
  simp [ruleStopped, hstart, hclosed]

/-- `recv_cmd` alone begins RECV_FRAME (R90, R118). -/
theorem ruleStopped_receive {i : CycleIn} (hstart : i.start = false) (hrecv : i.recvCmd = true) (s : State) :
    ruleStopped i s = { s with timer := s.cfg.cRxSettle, st := .rfSettle } := by
  simp [ruleStopped, hstart, hrecv]

theorem ruleStopped_idle {i : CycleIn} (hstart : i.start = false) (hrecv : i.recvCmd = false) (s : State) :
    ruleStopped i s = s := by
  simp [ruleStopped, hstart, hrecv]

theorem clockOn_stopped {i : CycleIn} {s : State} (hrst : i.rst = false) (hst : s.st = .stopped) :
    clockOn i s = .ok (ruleStopped i (beginCycle i s)) := by
  simp [clockOn_rule hrst, cycleRule, hst]

/-- Settles O28: each clause is one equation of the rule, read at the begun cycle. -/
theorem stoppedCycleRule : Obligations.StoppedCycleRule := by
  unfold Obligations.StoppedCycleRule
  intro i s hst hrst
  rw [clockOn_stopped hrst hst]
  exact ⟨beginCycle i s, rfl,
    fun hstart hopen => congrArg _ (ruleStopped_enter hstart hopen _),
    fun hstart hclosed => congrArg _ (ruleStopped_closed hstart hclosed _),
    fun hstart hrecv => congrArg _ (ruleStopped_receive hstart hrecv _),
    fun hstart hrecv => congrArg _ (ruleStopped_idle hstart hrecv _)⟩

/-! ## `BUILD` -/

/-- A write outside `txbuf` faults before anything else (R127, R147). -/
theorem ruleBuild_addrFault {i : CycleIn} {s : State} (hwe : i.bldWe = true)
    (haddr : s.cfg.txCapacity ≤ bldAddrOf i s) : ruleBuild i s = .ok (raiseFault .buildAddr s) := by
  simp [ruleBuild, hwe, haddr]

/-- Then a length above the capacity faults, and takes the write with it (R127, R147). -/
theorem ruleBuild_lengthFault {i : CycleIn} {s : State} (haddr : ¬(i.bldWe = true ∧ s.cfg.txCapacity ≤ bldAddrOf i s))
    (hdone : i.bldDone = true) (hlen : s.cfg.txCapacity < bldLenOf i s) :
    ruleBuild i s = .ok (raiseFault .txLength s) := by
  simp [ruleBuild, haddr, hdone, hlen]

/-- Otherwise the write is applied, and `bld_done` begins TRANSMIT (R127). -/
theorem ruleBuild_applied {i : CycleIn} {s : State} (haddr : ¬(i.bldWe = true ∧ s.cfg.txCapacity ≤ bldAddrOf i s))
    (hlen : ¬(i.bldDone = true ∧ s.cfg.txCapacity < bldLenOf i s)) :
    ruleBuild i s =
      .ok (if i.bldDone then beginTransmit (bldLenOf i s) (buildWrite i s) else buildWrite i s) := by
  simp only [ruleBuild, Bool.and_eq_true, decide_eq_true_eq, if_neg haddr, if_neg hlen]
  cases hwe : i.bldWe with
  | false =>
    rw [buildWrite_idle hwe]
    rfl
  | true =>
    have inside : bldAddrOf i s < s.cfg.txCapacity := not_le.mp fun h => haddr ⟨hwe, h⟩
    simp only [buildWrite, hwe, if_true, bufWriteTx_of_lt inside]
    rfl

theorem clockOn_build {i : CycleIn} {s : State} (hrst : i.rst = false) (hst : s.st = .build) :
    clockOn i s = ruleBuild i (beginCycle i s) := by
  simp [clockOn_rule hrst, cycleRule, hst]

/-- Settles O26: each clause is one equation of the rule, read at the begun cycle. -/
theorem buildCycleRule : Obligations.BuildCycleRule := by
  unfold Obligations.BuildCycleRule
  intro i s hst hrst
  rw [clockOn_build hrst hst]
  refine ⟨beginCycle i s, rfl, by simp [State.bldReq, hst], rfl, ruleBuild_addrFault (s := beginCycle i s),
    ruleBuild_lengthFault (s := beginCycle i s), fun haddr hlen => ⟨buildWrite i (beginCycle i s), rfl, ?_⟩⟩
  rw [ruleBuild_applied (s := beginCycle i s) haddr hlen]
  obtain ⟨m, written⟩ := buildWrite_frame i (beginCycle i s)
  rw [written]
  rfl

/-! ## START -/

/-- START is the cycle with the `start` pulse (R114). -/
theorem exec_start (s : State) : exec .start s = answer (clockOn { s.thisInput with start := true } s) := rfl

/-- Settles O34: START is the first clause of the `STOPPED` rule (O28), and `beginCycle` does not read `start`. -/
theorem startEntersLoop : Obligations.StartEntersLoop := by
  unfold Obligations.StartEntersLoop
  intro s hst hrst hopen
  obtain ⟨_, rfl, enter, -⟩ := stoppedCycleRule { s.thisInput with start := true } s hst hrst
  exact ⟨_, answer_next.mpr (enter rfl hopen), rfl, rfl, rfl, rfl⟩

/-- `start` is read by the rule of `STOPPED` alone (R120). -/
theorem cycleRule_start_unread {s : State} (hst : s.st ≠ .stopped) (i : CycleIn) (pulse : Bool) :
    cycleRule { i with start := pulse } s = cycleRule i s := by
  unfold cycleRule
  split
  next stopped => exact absurd stopped hst
  all_goals rfl

/-- Outside `STOPPED` a cycle does not depend on `start` (R120). -/
theorem clockOn_start_unread {s : State} (hst : s.st ≠ .stopped) (i : CycleIn) (pulse : Bool) :
    clockOn { i with start := pulse } s = clockOn i s := by
  unfold clockOn
  exact if_congr Iff.rfl rfl (cycleRule_start_unread (s := beginCycle i s) hst i pulse)

/-- Settles O36: with the pulse or without it, the cycle is the one of the ports as they stand. -/
theorem startIgnoredWhileBusy : Obligations.StartIgnoredWhileBusy := by
  unfold Obligations.StartIgnoredWhileBusy
  intro s hst
  rw [exec_start]
  exact congrArg answer
    ((clockOn_start_unread hst s.thisInput true).trans (clockOn_start_unread hst s.thisInput false).symm)

/-! ## The SyncState transitions

Each of the three states that write `sync` does so exactly in the cycle that leaves it by the transition R116 names; the
event follows from the change. -/

/-- `REQ_WAIT` loses synchronisation exactly where it goes back to `TOP` (R116, R124). -/
theorem ruleReqWait_sync {s : State} (hst : s.st = .reqWait) :
    (ruleReqWait s).sync = if (ruleReqWait s).st = .top then .syncing else s.sync := by
  obtain ⟨_, -, e⟩ | ⟨_, _, -, -, e⟩ | ⟨-, -, e⟩ | ⟨-, -, e⟩ := ruleReqWait_cases s <;> rw [e]
  · rfl
  · simp
  · simp
  · simp [hst]

/-- `REQ_ID` regains synchronisation exactly where it is left, whatever the module (R116, R125, R126). -/
theorem ruleReqId_sync {s : State} (hst : s.st = .reqId) :
    (ruleReqId s).sync = if (ruleReqId s).st = .reqId then s.sync else .connected := by
  obtain ⟨m, _, -, e⟩ | ⟨-, e⟩ := ruleReqId_cases s <;> rw [e]
  · have left : (dispatchModule m (popRx s)).st ≠ .reqId := by
      rw [dispatchModule_eq]
      dsimp only
      split <;> decide
    rw [if_neg left, dispatchModule_eq]
    exact reconnect_sync m _
  · simp [hst]

/-- `STOPPED` sets `sync` exactly where START enters the loop (R116, R119). -/
theorem ruleStopped_sync {s : State} (hst : s.st = .stopped) (i : CycleIn) :
    (ruleStopped i s).sync = if (ruleStopped i s).st = .top then .connected else s.sync := by
  cases hstart : i.start with
  | true =>
    cases hopen : i.transportOk with
    | true => simp [ruleStopped_enter hstart hopen]
    | false => simp [ruleStopped_closed hstart hopen, hst]
  | false =>
    cases hrecv : i.recvCmd with
    | true => simp [ruleStopped_receive hstart hrecv]
    | false => simp [ruleStopped_idle hstart hrecv, hst]

section
variable {i : CycleIn} {s t : State}

theorem clockOn_reqWait_sync (hrst : i.rst = false) (hst : s.st = .reqWait) (h : clockOn i s = .ok t) :
    t.sync = if t.st = .top then .syncing else s.sync := by
  simp only [clockOn_rule hrst, cycleRule, beginCycle_st, hst, Except.ok.injEq] at h
  exact h ▸ ruleReqWait_sync (s := beginCycle i s) hst

theorem clockOn_reqId_sync (hrst : i.rst = false) (hst : s.st = .reqId) (h : clockOn i s = .ok t) :
    t.sync = if t.st = .reqId then s.sync else .connected := by
  simp only [clockOn_rule hrst, cycleRule, beginCycle_st, hst, Except.ok.injEq] at h
  exact h ▸ ruleReqId_sync (s := beginCycle i s) hst

theorem clockOn_stopped_sync (hrst : i.rst = false) (hst : s.st = .stopped) (h : clockOn i s = .ok t) :
    t.sync = if t.st = .top then .connected else s.sync := by
  rw [clockOn_stopped hrst hst, Except.ok.injEq] at h
  exact h ▸ ruleStopped_sync (s := beginCycle i s) hst i

/-- Every other state leaves `sync` alone (R116). -/
theorem clockOn_sync_of_other (hrst : i.rst = false) (hstopped : s.st ≠ .stopped) (hwait : s.st ≠ .reqWait)
    (hid : s.st ≠ .reqId) (h : clockOn i s = .ok t) : t.sync = s.sync := by
  have outside : isAwait s.st = false := by simp [Bool.eq_false_iff, isAwait_iff, hwait, hid]
  rw [clockOn_rule hrst] at h
  exact (cycleRule_keepsSync (s := beginCycle i s) hstopped outside h).sync

/-- A cycle that takes none of the three transitions leaves `sync` alone (R116). -/
theorem clockOn_sync_of_no_transition (hrst : i.rst = false) (h : clockOn i s = .ok t)
    (hwait : ¬(s.st = .reqWait ∧ t.st = .top)) (hid : ¬(s.st = .reqId ∧ t.st ≠ .reqId))
    (hstart : ¬(s.st = .stopped ∧ t.st = .top)) : t.sync = s.sync := by
  by_cases inWait : s.st = .reqWait
  · rw [clockOn_reqWait_sync hrst inWait h, if_neg fun htop => hwait ⟨inWait, htop⟩]
  by_cases inId : s.st = .reqId
  · rw [clockOn_reqId_sync hrst inId h, if_pos (not_not.mp fun hleft => hid ⟨inId, hleft⟩)]
  by_cases inStopped : s.st = .stopped
  · rw [clockOn_stopped_sync hrst inStopped h, if_neg fun htop => hstart ⟨inStopped, htop⟩]
  exact clockOn_sync_of_other hrst inStopped inWait inId h

end

/-- Settles O16: the three transitions give the new `sync`, and R24 (O15) gives the pulse from its change. -/
theorem syncStateTransitions : Obligations.SyncStateTransitions := by
  unfold Obligations.SyncStateTransitions
  intro i s t h hrst
  have pulse : t.outs.syncEvent = true ↔ s.st ≠ .stopped ∧ t.sync ≠ s.sync := by
    simpa [hrst] using (syncEventMarksChanges i s t h).1
  refine ⟨fun hst htop => ?lost, fun hst hleft => ?regained, fun hst htop => ?started,
    fun hwait hid hstart => ?kept⟩
  case lost =>
    have lost : t.sync = .syncing := by rw [clockOn_reqWait_sync hrst hst h, if_pos htop]
    refine ⟨lost, ?_⟩
    cases hs : s.sync <;> simp [pulse, hst, lost, hs]
  case regained =>
    have regained : t.sync = .connected := by rw [clockOn_reqId_sync hrst hst h, if_neg hleft]
    refine ⟨regained, ?_⟩
    cases hs : s.sync <;> simp [pulse, hst, regained, hs]
  case started =>
    exact ⟨by rw [clockOn_stopped_sync hrst hst h, if_pos htop], clockOn_stopped_syncEvent hrst hst h⟩
  case kept =>
    have kept : t.sync = s.sync := clockOn_sync_of_no_transition hrst h hwait hid hstart
    exact ⟨kept, by simp [Bool.eq_false_iff, pulse, kept]⟩

end Sys2Proof.Machine
end

section
/-! PROOFS of the family 60_exceptions.md: the causes of a fault and its precision (R149 to R151). -/

namespace Sys2Proof.Machine

/-! ## The causes of a fault -/

/-- The fault table (R149) at a begun cycle: what raises each code, with `BUILD_ADDR` before `TX_LENGTH` (R147). -/
inductive FaultCause (i : CycleIn) (s : State) : FaultCode → Prop where
  | rxOverrun (storing : s.st = .rfScan ∨ s.st = .rfTrail) (heard : s.rxQueue ≠ [])
      (full : s.rxCount = s.cfg.rxCapacity) : FaultCause i s .rxOverrun
  | buildAddr (building : s.st = .build) (write : i.bldWe = true) (outside : s.cfg.txCapacity ≤ bldAddrOf i s) :
      FaultCause i s .buildAddr
  | txLength (building : s.st = .build) (inside : ¬(i.bldWe = true ∧ s.cfg.txCapacity ≤ bldAddrOf i s))
      (done : i.bldDone = true) (long : s.cfg.txCapacity < bldLenOf i s) : FaultCause i s .txLength

/-- Without its order the table is a disjunction of three conditions (R149). -/
theorem exists_faultCause_iff {i : CycleIn} {s : State} :
    (∃ c, FaultCause i s c) ↔
      ((s.st = .rfScan ∨ s.st = .rfTrail) ∧ s.rxQueue ≠ [] ∧ s.rxCount = s.cfg.rxCapacity) ∨
      (s.st = .build ∧ i.bldWe = true ∧ s.cfg.txCapacity ≤ bldAddrOf i s) ∨
      (s.st = .build ∧ i.bldDone = true ∧ s.cfg.txCapacity < bldLenOf i s) := by
  constructor
  · rintro ⟨_, ⟨storing, heard, full⟩ | ⟨building, write, outside⟩ | ⟨building, -, done, long⟩⟩
    · exact .inl ⟨storing, heard, full⟩
    · exact .inr (.inl ⟨building, write, outside⟩)
    · exact .inr (.inr ⟨building, done, long⟩)
  · rintro (⟨storing, heard, full⟩ | ⟨building, write, outside⟩ | ⟨building, done, long⟩)
    · exact ⟨_, .rxOverrun storing heard full⟩
    · exact ⟨_, .buildAddr building write outside⟩
    · by_cases haddr : i.bldWe = true ∧ s.cfg.txCapacity ≤ bldAddrOf i s
      · exact ⟨_, .buildAddr building haddr.1 haddr.2⟩
      · exact ⟨_, .txLength building haddr done long⟩

/-- The state and the ports name the code of a cause (R147, R149). -/
theorem FaultCause.code_eq {i : CycleIn} {s : State} {c : FaultCode} (cause : FaultCause i s c) :
    c = if s.st = .build then
        (if i.bldWe = true ∧ s.cfg.txCapacity ≤ bldAddrOf i s then .buildAddr else .txLength)
      else .rxOverrun := by
  cases cause with
  | rxOverrun storing =>
    have receiving : s.st ≠ .build := by rcases storing with e | e <;> simp [e]
    rw [if_neg receiving]
  | buildAddr building write outside => rw [if_pos building, if_pos ⟨write, outside⟩]
  | txLength building inside => rw [if_pos building, if_neg inside]

/-- A cycle with a cause is the raising of its fault and nothing else (R151). -/
theorem FaultCause.cycleRule_eq {i : CycleIn} {s : State} {c : FaultCode} (cause : FaultCause i s c) :
    cycleRule i s = .ok (raiseFault c s) := by
  cases cause with
  | rxOverrun storing heard full =>
    obtain ⟨b, rest, hq⟩ := List.exists_cons_of_ne_nil heard
    rcases storing with hst | hst <;> simp only [cycleRule, hst]
    · exact ruleRfScan_overrun hq full
    · exact ruleRfTrail_overrun hq full
  | buildAddr building write outside =>
    simp only [cycleRule, building]
    exact ruleBuild_addrFault write outside
  | txLength building inside done long =>
    simp only [cycleRule, building]
    exact ruleBuild_lengthFault inside done long

/-! ## Rules that raise no fault -/

section
variable {i : CycleIn} {s t : State}

theorem ruleStopped_st_ne_fault (hs : s.st ≠ .fault) : (ruleStopped i s).st ≠ .fault := by
  unfold ruleStopped
  repeat' split
  all_goals simp [hs]

theorem ruleTop_st_ne_fault : (ruleTop i s).st ≠ .fault := by
  unfold ruleTop beginAwait
  split <;> simp

theorem ruleReqWait_st_ne_fault (hs : s.st ≠ .fault) : (ruleReqWait s).st ≠ .fault := by
  obtain ⟨_, -, e⟩ | ⟨_, _, -, -, e⟩ | ⟨-, -, e⟩ | ⟨-, -, e⟩ := ruleReqWait_cases s <;> simp [e, hs]

theorem ruleReqId_st_ne_fault (hs : s.st ≠ .fault) : (ruleReqId s).st ≠ .fault := by
  obtain ⟨m, _, -, e⟩ | ⟨-, e⟩ := ruleReqId_cases s <;> rw [e]
  · rw [dispatchModule_eq]
    dsimp only
    split <;> simp
  · exact hs

theorem ruleTxSettle_st_ne_fault (hs : s.st ≠ .fault) : (ruleTxSettle s).st ≠ .fault := by
  unfold ruleTxSettle
  repeat' split
  all_goals simp [hs]

theorem ruleTxByte_st_ne_fault (hs : s.st ≠ .fault) (h : ruleTxByte i s = .ok t) : t.st ≠ .fault := by
  obtain ⟨-, rfl⟩ | ⟨-, -, -, rfl⟩ | ⟨-, -, -, rfl⟩ := ruleTxByte_cases h <;> simp [hs]

theorem ruleTxGap_st_ne_fault (hs : s.st ≠ .fault) : (ruleTxGap s).st ≠ .fault := by
  unfold ruleTxGap
  repeat' split
  all_goals simp [hs]

theorem ruleTxDrain_st_ne_fault (hs : s.st ≠ .fault) : (ruleTxDrain s).st ≠ .fault := by
  unfold ruleTxDrain
  repeat' split
  all_goals simp [hs]

theorem ruleRfSettle_st_ne_fault (hs : s.st ≠ .fault) : (ruleRfSettle s).st ≠ .fault := by
  unfold ruleRfSettle
  split <;> simp [hs]

theorem ruleRfPoll_st_ne_fault (hs : s.st ≠ .fault) : (ruleRfPoll s).st ≠ .fault := by
  obtain ⟨-, e⟩ | ⟨-, -, e⟩ | ⟨-, -, e⟩ := ruleRfPoll_cases s <;> simp [e, hs]

/-! ## Rules that can raise one

Each enters `FAULT` only by one of its causes. -/

theorem ruleRfScan_faultCause (hst : s.st = .rfScan) (h : ruleRfScan s = .ok t) (ht : t.st = .fault) :
    ∃ c, FaultCause i s c := by
  obtain ⟨-, rfl⟩ | ⟨heard, full, -⟩ | ⟨b, -, -, -, rfl⟩ := ruleRfScan_cases h
  · simp [hst] at ht
  · exact ⟨_, .rxOverrun (.inl hst) heard full⟩
  · dsimp only at ht
    split at ht <;> cases ht

theorem ruleRfTrail_faultCause (hst : s.st = .rfTrail) (h : ruleRfTrail s = .ok t) (ht : t.st = .fault) :
    ∃ c, FaultCause i s c := by
  obtain ⟨-, rfl⟩ | ⟨heard, full, -⟩ | ⟨b, -, -, -, rfl⟩ := ruleRfTrail_cases h
  · simp [hst] at ht
  · exact ⟨_, .rxOverrun (.inr hst) heard full⟩
  · cases ht

theorem ruleBuild_faultCause (hst : s.st = .build) (h : ruleBuild i s = .ok t) (ht : t.st = .fault) :
    ∃ c, FaultCause i s c := by
  obtain ⟨write, outside, -⟩ | ⟨inside, done, long, -⟩ | ⟨u, hwrite, hdone⟩ := ruleBuild_cases h
  · exact ⟨_, .buildAddr hst write outside⟩
  · exact ⟨_, .txLength hst inside done long⟩
  · have hu : u.st = .build := by
      obtain ⟨-, -, rfl⟩ | ⟨-, rfl⟩ := hwrite <;> exact hst
    obtain ⟨-, -, rfl⟩ | ⟨-, rfl⟩ := hdone
    · cases ht
    · simp [hu] at ht

/-- Outside `FAULT` no rule enters it without a cause (R149). -/
theorem cycleRule_faultCause (hs : s.st ≠ .fault) (h : cycleRule i s = .ok t) (ht : t.st = .fault) :
    ∃ c, FaultCause i s c := by
  unfold cycleRule at h
  cases hst : s.st <;> simp only [hst, Except.ok.injEq] at h
  case stopped => exact absurd (h ▸ ht) (ruleStopped_st_ne_fault hs)
  case top => exact absurd (h ▸ ht) ruleTop_st_ne_fault
  case reqWait => exact absurd (h ▸ ht) (ruleReqWait_st_ne_fault hs)
  case reqId => exact absurd (h ▸ ht) (ruleReqId_st_ne_fault hs)
  case build => exact ruleBuild_faultCause hst h ht
  case txSettle => exact absurd (h ▸ ht) (ruleTxSettle_st_ne_fault hs)
  case txByte => exact absurd ht (ruleTxByte_st_ne_fault hs h)
  case txGap => exact absurd (h ▸ ht) (ruleTxGap_st_ne_fault hs)
  case txDrain => exact absurd (h ▸ ht) (ruleTxDrain_st_ne_fault hs)
  case rfSettle => exact absurd (h ▸ ht) (ruleRfSettle_st_ne_fault hs)
  case rfPoll => exact absurd (h ▸ ht) (ruleRfPoll_st_ne_fault hs)
  case rfScan => exact ruleRfScan_faultCause hst h ht
  case rfTrail => exact ruleRfTrail_faultCause hst h ht
  case fault => exact absurd hst hs

/-! ## A clock cycle and its fault -/

/-- With no reset, a cycle with a cause is the begun cycle with its fault raised (R151). -/
theorem clockOn_of_faultCause {c : FaultCode} (hrst : i.rst = false) (cause : FaultCause i (beginCycle i s) c)
    (h : clockOn i s = .ok t) : t = raiseFault c (beginCycle i s) := by
  rw [clockOn_rule hrst, cause.cycleRule_eq, Except.ok.injEq] at h
  exact h.symm

/-- With no reset, a cycle enters `FAULT` exactly with a cause (R149). -/
theorem clockOn_fault_iff (hrst : i.rst = false) (hs : s.st ≠ .fault) (h : clockOn i s = .ok t) :
    t.st = .fault ↔ ∃ c, FaultCause i (beginCycle i s) c where
  mp ht := cycleRule_faultCause (s := beginCycle i s) hs (clockOn_rule hrst s ▸ h) ht
  mpr := fun ⟨_, cause⟩ => by rw [clockOn_of_faultCause hrst cause h, raiseFault_st]

end

/-- Settles O22: `FAULT` is entered exactly with a cause, and the cycle is then `raiseFault` at the begun cycle. -/
theorem faultsArePrecise : Obligations.FaultsArePrecise := by
  unfold Obligations.FaultsArePrecise
  intro i s t h hrst hs
  refine ⟨(clockOn_fault_iff hrst hs h).trans exists_faultCause_iff, fun ht => ?_⟩
  obtain ⟨c, cause⟩ := (clockOn_fault_iff hrst hs h).mp ht
  obtain rfl : t = raiseFault c (beginCycle i s) := clockOn_of_faultCause hrst cause h
  exact ⟨rfl, cause.code_eq, rfl, rfl, rfl, rfl, rfl, rfl, rfl, rfl, rfl, ⟨rfl, rfl, rfl, rfl⟩,
    ⟨rfl, rfl, rfl, rfl, fun _ => rfl, rfl⟩, ⟨rfl, rfl, rfl, fun _ => rfl⟩, ⟨rfl, rfl, rfl, rfl, rfl, rfl⟩⟩

end Sys2Proof.Machine
end

section
/-! PROOFS about the encoding (30_encoding.md): the decoder is the exact inverse of the encoder (R56, R57, R61, R64 to R66). -/

namespace Sys2Proof

/-! ## Operation words -/

/-- With bits 7:3 clear an operation word is its code (R60). -/
theorem eq_opField_of_opZeroField {w : Byte} (h : opZeroField w = 0) : w = (opField w).setWidth 8 := by
  have high : w.toNat / 8 % 32 = 0 := by simpa [opZeroField, Nat.shiftRight_eq_div_pow] using congrArg BitVec.toNat h
  apply BitVec.eq_of_toNat_eq
  simp only [opField, BitVec.toNat_setWidth, BitVec.extractLsb'_toNat, Nat.shiftRight_zero]
  omega

/-- What the code table spells is an operation, and the code is its encoding (R61). -/
theorem opOfCode_some {op : BitVec 3} {i : Instr} (h : opOfCode op = some i) :
    i.format = .op8 ∧ ∀ c, encode c i = [op.setWidth 8] := by
  have coded : op = BitVec.ofNat 3 op.toNat := by simp
  unfold opOfCode at h
  split at h
  case h_8 => cases h
  all_goals
    rename_i hop
    injection h with h
    subst h
    rw [coded, hop]
    exact ⟨rfl, fun _ => rfl⟩

/-- An operation word decodes to the operation whose encoding it is, and to nothing else (R61, R66). -/
theorem decodeOp8_ok_iff (c : Config) (w : Byte) (i : Instr) :
    decodeOp8 w = .ok i ↔ i.format = .op8 ∧ encode c i = [w] := by
  constructor
  · intro h
    unfold decodeOp8 at h
    split at h
    case isFalse => cases h
    case isTrue hzero =>
      split at h
      case h_2 => cases h
      case h_1 j hj =>
        injection h with h
        subst h
        rw [eq_opField_of_opZeroField hzero]
        exact ⟨(opOfCode_some hj).1, (opOfCode_some hj).2 c⟩
  · rintro ⟨hformat, hbytes⟩
    cases i with
    | reqEam | reqGps | reqUnknown | reqInvalid => cases hformat
    | scan | finalize | await | recvFrame | transmit | iterate | start =>
      obtain rfl : _ = w := List.singleton_inj.mp hbytes
      rfl

/-- A reserved word decodes to nothing (R66). -/
theorem decodeOp8_reserved {w : Byte} (h : opField w = 7 ∨ opZeroField w ≠ 0) :
    decodeOp8 w = .error (.reservedOpWord w) := by
  unfold decodeOp8
  split
  case isTrue hzero =>
    have code : opField w = 7 := h.resolve_right (not_not.mpr hzero)
    rw [code]
    rfl
  case isFalse => rfl

/-! ## Requests -/

/-- The dispatch by module answers a well-formed two-byte request that spells that module (R65). -/
theorem classify_spec (c : Config) (m : Byte) :
    (classify c m).wellFormed c = true ∧ (classify c m).format = .req16 ∧
      encode c (classify c m) = [c.sentinel, m] := by
  unfold classify
  by_cases heam : m = c.eamId
  · simp [heam, Instr.wellFormed, Instr.format, encode]
  · by_cases hgps : m = c.gpsId
    · rw [if_neg heam, if_pos hgps]
      simp [hgps, Instr.wellFormed, Instr.format, encode]
    · rw [if_neg heam, if_neg hgps]
      simp [heam, hgps, Instr.wellFormed, Instr.format, encode, Config.supports]

theorem classify_eamId (c : Config) : classify c c.eamId = .reqEam := if_pos rfl

/-- The two supported ids differ (R9). -/
theorem eamId_ne_gpsId {c : Config} (h : c.ok = true) : c.eamId ≠ c.gpsId := by
  simp only [Config.ok, Bool.and_eq_true, bne_iff_ne] at h
  tauto

theorem classify_gpsId {c : Config} (h : c.ok = true) : classify c c.gpsId = .reqGps := by
  rw [classify, if_neg (eamId_ne_gpsId h).symm, if_pos rfl]

theorem classify_unknown {c : Config} {m : Byte} (heam : m ≠ c.eamId) (hgps : m ≠ c.gpsId) :
    classify c m = .reqUnknown m := by
  rw [classify, if_neg heam, if_neg hgps]

/-- Every well-formed two-byte request is `SENTINEL` and a module byte that is dispatched to it (R65). -/
theorem encode_req16 {c : Config} {i : Instr} (hc : c.ok = true) (hwf : i.wellFormed c = true)
    (hformat : i.format = .req16) : ∃ m, encode c i = [c.sentinel, m] ∧ classify c m = i := by
  cases i with
  | scan | finalize | await | recvFrame | transmit | iterate | start | reqInvalid => cases hformat
  | reqEam => exact ⟨c.eamId, rfl, classify_eamId c⟩
  | reqGps => exact ⟨c.gpsId, rfl, classify_gpsId hc⟩
  | reqUnknown m =>
    simp only [Instr.wellFormed, Config.supports, Bool.not_eq_true', Bool.or_eq_false_iff, beq_eq_false_iff_ne] at hwf
    exact ⟨m, rfl, classify_unknown hwf.1 hwf.2⟩

/-- `SENTINEL` reads on: the next byte is the module (R65, R69). -/
theorem decodeRequest_sentinel (c : Config) (m : Byte) (rest : List Byte) :
    decodeRequest c (c.sentinel :: m :: rest) = .ok (classify c m, rest) := by
  simp [decodeRequest]

/-- Any other first byte is a whole request (R65, R69). -/
theorem decodeRequest_invalid {c : Config} {b : Byte} (h : b ≠ c.sentinel) (rest : List Byte) :
    decodeRequest c (b :: rest) = .ok (.reqInvalid b, rest) := by
  simp [decodeRequest, h]

/-- All that decoding a request can answer (R65). -/
theorem decodeRequest_cases {c : Config} {bytes rest : List Byte} {i : Instr}
    (h : decodeRequest c bytes = .ok (i, rest)) :
    (∃ m, bytes = c.sentinel :: m :: rest ∧ i = classify c m) ∨
    (∃ b, b ≠ c.sentinel ∧ bytes = b :: rest ∧ i = .reqInvalid b) := by
  match bytes with
  | [] => cases h
  | b :: tail =>
    by_cases hb : b = c.sentinel
    · match tail with
      | [] => simp [decodeRequest, hb] at h
      | m :: tail =>
        rw [hb, decodeRequest_sentinel] at h
        injection h with h
        injection h with hi hrest
        exact .inl ⟨m, by rw [hb, hrest], hi.symm⟩
    · rw [decodeRequest_invalid hb] at h
      injection h with h
      injection h with hi hrest
      exact .inr ⟨b, hb, by rw [hrest], hi.symm⟩

/-- On the wire the decoder answers exactly the well-formed requests (R65). -/
theorem decodeRequest_ok_iff {c : Config} (hc : c.ok = true) (bytes rest : List Byte) (i : Instr) :
    decodeRequest c bytes = .ok (i, rest) ↔
      i.wellFormed c = true ∧ i.format.source = .wire ∧ bytes = encode c i ++ rest := by
  constructor
  · intro h
    obtain ⟨m, rfl, rfl⟩ | ⟨b, hb, rfl, rfl⟩ := decodeRequest_cases h
    · obtain ⟨hwf, hformat, hbytes⟩ := classify_spec c m
      exact ⟨hwf, by rw [hformat]; rfl, by rw [hbytes]; rfl⟩
    · exact ⟨by simpa [Instr.wellFormed] using hb, rfl, rfl⟩
  · rintro ⟨hwf, hsource, rfl⟩
    cases hformat : i.format with
    | op8 => rw [hformat] at hsource; cases hsource
    | req16 =>
      obtain ⟨m, hbytes, hclass⟩ := encode_req16 hc hwf hformat
      rw [hbytes, ← hclass]
      exact decodeRequest_sentinel c m rest
    | mode8 =>
      cases i with
      | reqInvalid b => exact decodeRequest_invalid (by simpa [Instr.wellFormed] using hwf) rest
      | _ => cases hformat

/-- An operation is written in one byte (R60). -/
theorem encode_op8 (c : Config) {i : Instr} (h : i.format = .op8) : ∃ w, encode c i = [w] := by
  cases i with
  | reqEam | reqGps | reqUnknown | reqInvalid => cases h
  | scan | finalize | await | recvFrame | transmit | iterate | start => exact ⟨_, rfl⟩

/-- At the operation port the decoder answers exactly the operations (R61). -/
theorem decode_opPort_ok_iff (c : Config) (bytes rest : List Byte) (i : Instr) :
    decode c .opPort bytes = .ok (i, rest) ↔ i.format = .op8 ∧ bytes = encode c i ++ rest := by
  match bytes with
  | [] =>
    have nonempty : encode c i ≠ [] := by cases i <;> simp [encode]
    simp [decode, nonempty]
  | w :: tail =>
    have decoded : decode c .opPort (w :: tail) = .ok (i, rest) ↔ decodeOp8 w = .ok i ∧ tail = rest := by
      simp only [decode]
      cases decodeOp8 w <;> simp [Except.map]
    rw [decoded, decodeOp8_ok_iff c]
    constructor
    · rintro ⟨⟨hformat, hbytes⟩, rfl⟩
      exact ⟨hformat, by rw [hbytes]; rfl⟩
    · rintro ⟨hformat, hbytes⟩
      obtain ⟨v, hv⟩ := encode_op8 c hformat
      rw [hv, List.singleton_append, List.cons.injEq] at hbytes
      exact ⟨⟨hformat, hbytes.1 ▸ hv⟩, hbytes.2⟩

/-- Operations are well formed for every parameter set (R64). -/
theorem wellFormed_of_op8 {i : Instr} (h : i.format = .op8) (c : Config) : i.wellFormed c = true := by
  cases i with
  | reqEam | reqGps | reqUnknown | reqInvalid => cases h
  | scan | finalize | await | recvFrame | transmit | iterate | start => rfl

theorem source_opPort_iff (f : Format) : f.source = .opPort ↔ f = .op8 := by
  cases f <;> simp [Format.source]

/-- Settles O1: by source, the operation table or the request table read both ways. -/
theorem decodeExactlyInvertsEncode : Obligations.DecodeExactlyInvertsEncode := by
  unfold Obligations.DecodeExactlyInvertsEncode
  intro c src bytes rest i hc
  cases src with
  | opPort =>
    rw [decode_opPort_ok_iff, source_opPort_iff]
    exact ⟨fun ⟨hformat, hbytes⟩ => ⟨wellFormed_of_op8 hformat c, hformat, hbytes⟩, And.right⟩
  | wire => exact decodeRequest_ok_iff hc bytes rest i

/-- Settles O2: the decoder's refusal is the step's. -/
theorem reservedOperationWordsRefused : Obligations.ReservedOperationWordsRefused := by
  unfold Obligations.ReservedOperationWordsRefused
  intro w hw
  refine ⟨decodeOp8_reserved hw, fun s hc hword => ?_⟩
  simp [Machine.step, hc, hword, decodeOp8_reserved hw]

/-- Settles O3: the request table read forwards. -/
theorem requestClassByItsBytes : Obligations.RequestClassByItsBytes := by
  unfold Obligations.RequestClassByItsBytes
  intro c b0 b1 rest hc
  refine ⟨fun hb => decodeRequest_invalid hb rest, ?eam, ?gps, fun heam hgps => ?unknown⟩
  case eam => rw [decode, decodeRequest_sentinel, classify_eamId]
  case gps => rw [decode, decodeRequest_sentinel, classify_gpsId hc]
  case unknown => rw [decode, decodeRequest_sentinel, classify_unknown heam hgps]

/-- Settles O4: the decoder run on the written words. -/
theorem writtenWordsDecode : Obligations.WrittenWordsDecode := by
  unfold Obligations.WrittenWordsDecode
  decide

end Sys2Proof
end

section
/-! PROOFS about one clock cycle: the transitions of the engine, one constructor for each thing a cycle without reset can do
(R36), and the lemma that says a cycle does exactly one of them. -/

namespace Sys2Proof.Machine

/-! ## The events and wires of a resync and a reconnect -/

theorem resync_events (o : Resync) (s : State) : (resync o s).events = s.events ++ loseEvents s := by
  simp [resync, loseSync_events, loseEvents]

theorem resync_outs (o : Resync) (s : State) :
    (resync o s).outs = { s.outs with syncEvent := s.outs.syncEvent || decide (s.sync = .connected) } := by
  cases hs : s.sync <;> simp [resync, loseSync_outs, hs]

theorem reconnect_events (m : Byte) (s : State) : (reconnect m s).events = s.events ++ regainEvents s := by
  simp [reconnect, regainSync_events, regainEvents]

theorem reconnect_outs (m : Byte) (s : State) :
    (reconnect m s).outs = { s.outs with syncEvent := s.outs.syncEvent || decide (s.sync = .syncing) } := by
  cases hs : s.sync <;> simp [reconnect, regainSync_outs, hs]

/-! ## The builder's write -/

/-- `txbuf` with the builder's write of a cycle (R38, R127). -/
def builtBuf (i : CycleIn) (s : State) : Memory :=
  if i.bldWe then s.txbuf.write (bldAddrOf i s) i.bldWdata else s.txbuf

theorem buildWrite_eq (i : CycleIn) (s : State) : buildWrite i s = { s with txbuf := builtBuf i s } := by
  unfold buildWrite builtBuf
  split <;> rfl

/-! ## The waits -/

/-- The states that count `timer` down (R156). -/
def countsDown : St → Bool
  | .reqWait | .rfSettle | .rfPoll | .txSettle | .txGap => true
  | .stopped | .top | .reqId | .build | .txByte | .txDrain | .rfScan | .rfTrail | .fault => false

/-- Those of them in which a byte ends the wait (R83, R92). -/
def listens : St → Bool
  | .reqWait | .rfPoll => true
  | .stopped | .top | .reqId | .build | .txSettle | .txByte | .txGap | .txDrain | .rfSettle | .rfScan | .rfTrail
  | .fault => false

/-- The states that wait for a byte without limit (R163). -/
def awaitsByte : St → Bool
  | .reqId | .rfScan | .rfTrail => true
  | .stopped | .top | .reqWait | .build | .txSettle | .txByte | .txGap | .txDrain | .rfSettle | .rfPoll | .fault => false

/-! ## The transitions -/

/-- What a cycle without reset can do, from the begun state: one constructor for each row of the cycle rules. -/
inductive Move (i : CycleIn) (s : State) : State → Prop where
  /-- START with the transport open (R119). -/
  | enterLoop (hst : s.st = .stopped) (hstart : i.start = true) (hopen : i.transportOk = true) :
      Move i s { s with sync := .connected, startFailed := false, st := .top }
  /-- START with the transport closed (R118). -/
  | startFails (hst : s.st = .stopped) (hstart : i.start = true) (hclosed : i.transportOk = false) :
      Move i s { s with startFailed := true }
  /-- `recv_cmd` (R90). -/
  | receive (hst : s.st = .stopped) (hstart : i.start = false) (hrecv : i.recvCmd = true) :
      Move i s { s with timer := s.cfg.cRxSettle, st := .rfSettle }
  /-- Nothing asked of `STOPPED`. -/
  | idle (hst : s.st = .stopped) (hstart : i.start = false) (hrecv : i.recvCmd = false) : Move i s s
  /-- The loop's exit (R121). -/
  | exit (hst : s.st = .top) (hdown : i.shutdown = true) : Move i s { s with st := .stopped }
  /-- AWAIT begins (R121). -/
  | listen (hst : s.st = .top) (hdown : i.shutdown = false) : Move i s (beginAwait s)
  /-- A cycle of a timed wait (R156). -/
  | tick (hst : countsDown s.st = true) (silent : listens s.st = true → s.rxQueue = []) (ht : 0 < s.timer) :
      Move i s { s with timer := s.timer - 1 }
  /-- A cycle of a wait for a byte that is not there (R163). -/
  | hold (hst : awaitsByte s.st = true) (hq : s.rxQueue = []) : Move i s s
  /-- `SENTINEL` (R83). -/
  | modeByte (hst : s.st = .reqWait) (rest : List Byte) (hq : s.rxQueue = s.cfg.sentinel :: rest) :
      Move i s { popRx s with st := .reqId }
  /-- Another first byte (R83, R124). -/
  | invalid (hst : s.st = .reqWait) (b : Byte) (rest : List Byte) (hq : s.rxQueue = b :: rest)
      (hb : b ≠ s.cfg.sentinel) : Move i s (resync .invalid (popRx s))
  /-- The end of AWAIT's window (R83, R124). -/
  | timeout (hst : s.st = .reqWait) (hq : s.rxQueue = []) (ht : s.timer = 0) : Move i s (resync .timeout s)
  /-- The module byte (R84, R125, R126). -/
  | moduleByte (hst : s.st = .reqId) (m : Byte) (rest : List Byte) (hq : s.rxQueue = m :: rest) :
      Move i s { reconnect m (popRx s) with st := if s.cfg.supports m then .build else .top }
  /-- A fault (R149). -/
  | fault (code : FaultCode) (cause : FaultCause i s code) : Move i s (raiseFault code s)
  /-- A cycle of `BUILD` that goes on (R127). -/
  | building (hst : s.st = .build) (inside : WritesInside i s) (hdone : i.bldDone = false) :
      Move i s { s with txbuf := builtBuf i s }
  /-- TRANSMIT begins (R127). -/
  | built (hst : s.st = .build) (inside : WritesInside i s) (hdone : i.bldDone = true)
      (hlen : bldLenOf i s ≤ s.cfg.txCapacity) :
      Move i s (beginTransmit (bldLenOf i s) { s with txbuf := builtBuf i s })
  /-- The settling delay of an empty frame is over (R103). -/
  | settledEmpty (hst : s.st = .txSettle) (ht : s.timer = 0) (hlen : s.len = 0) :
      Move i s { s with idx := 0, csum := 0x00, drainRem := 0, st := .txDrain }
  /-- The settling delay is over (R103). -/
  | settled (hst : s.st = .txSettle) (ht : s.timer = 0) (hlen : 0 < s.len) :
      Move i s { s with idx := 0, csum := 0x00, st := .txByte }
  /-- The transport does not take the byte (R104). -/
  | stall (hst : s.st = .txByte) (hready : i.txReady = false) : Move i s s
  /-- The checksum is sent (R104). -/
  | sendChecksum (hst : s.st = .txByte) (hready : i.txReady = true) (hlast : s.idx + 1 = s.len)
      (hidx : s.idx < s.cfg.txCapacity) :
      Move i s { txWrite s.csum s with
        txbuf := s.txbuf.write s.idx s.csum, timer := s.cfg.cInterbyte, st := .txGap }
  /-- A payload byte is sent (R104). -/
  | sendByte (hst : s.st = .txByte) (hready : i.txReady = true) (hlast : s.idx + 1 ≠ s.len)
      (hidx : s.idx < s.cfg.txCapacity) :
      Move i s { txWrite (s.txAt s.idx) s with
        csum := s.csum + s.txAt s.idx, timer := s.cfg.cInterbyte, st := .txGap }
  /-- The gap after the checksum is over (R105). -/
  | sent (hst : s.st = .txGap) (ht : s.timer = 0) (hlast : s.idx + 1 = s.len) :
      Move i s { s with drainRem := s.len, st := .txDrain }
  /-- The gap after another byte is over (R105). -/
  | nextByte (hst : s.st = .txGap) (ht : s.timer = 0) (hlast : s.idx + 1 ≠ s.len) :
      Move i s { s with idx := s.idx + 1, st := .txByte }
  /-- A byte is drained (R106). -/
  | drain (hst : s.st = .txDrain) (hrem : 0 < s.drainRem) (hq : s.rxQueue ≠ []) :
      Move i s { popRx s with drainRem := s.drainRem - 1 }
  /-- The drain is over (R106). -/
  | drained (hst : s.st = .txDrain) (hend : s.drainRem = 0 ∨ s.rxQueue = []) : Move i s { s with st := .top }
  /-- The poll begins (R91). -/
  | poll (hst : s.st = .rfSettle) (ht : s.timer = 0) : Move i s { s with timer := s.cfg.cTimeout, st := .rfPoll }
  /-- The poll hears a byte (R92). -/
  | heard (hst : s.st = .rfPoll) (hq : s.rxQueue ≠ []) : Move i s { s with rxCount := 0, st := .rfScan }
  /-- The poll's window ends (R92). -/
  | pollTimeout (hst : s.st = .rfPoll) (hq : s.rxQueue = []) (ht : s.timer = 0) :
      Move i s (pulseRfDone { s with rfStatus := .timeout, rfLen := 0, st := .stopped })
  /-- A byte is stored (R93). -/
  | store (hst : s.st = .rfScan) (b : Byte) (rest : List Byte) (hq : s.rxQueue = b :: rest)
      (hroom : s.rxCount < s.cfg.rxCapacity) :
      Move i s { popRx s with
        rxbuf := s.rxbuf.write s.rxCount b
        rxCount := s.rxCount + 1
        st := if b = s.cfg.terminator then .rfTrail else .rfScan }
  /-- The trailing byte is stored and the frame reported (R94). -/
  | frame (hst : s.st = .rfTrail) (b : Byte) (rest : List Byte) (hq : s.rxQueue = b :: rest)
      (hroom : s.rxCount < s.cfg.rxCapacity) :
      Move i s (pulseRfDone { popRx s with
        rxbuf := s.rxbuf.write s.rxCount b
        rxCount := s.rxCount + 1
        rfLen := s.rxCount + 1
        rfStatus := .ok
        st := .stopped })
  /-- `FAULT` (R152). -/
  | stuck (hst : s.st = .fault) : Move i s s

section
variable {i : CycleIn} {s t : State}

theorem ruleStopped_move (hst : s.st = .stopped) : Move i s (ruleStopped i s) := by
  cases hstart : i.start with
  | true =>
    cases hopen : i.transportOk with
    | true => exact ruleStopped_enter hstart hopen s ▸ .enterLoop hst hstart hopen
    | false => exact ruleStopped_closed hstart hopen s ▸ .startFails hst hstart hopen
  | false =>
    cases hrecv : i.recvCmd with
    | true => exact ruleStopped_receive hstart hrecv s ▸ .receive hst hstart hrecv
    | false => exact (ruleStopped_idle hstart hrecv s).symm ▸ .idle hst hstart hrecv

theorem ruleTop_move (hst : s.st = .top) : Move i s (ruleTop i s) := by
  unfold ruleTop
  split
  next hdown => exact .exit hst hdown
  next hdown => exact .listen hst (by simpa using hdown)

theorem ruleReqWait_move (hst : s.st = .reqWait) : Move i s (ruleReqWait s) := by
  obtain ⟨rest, hq, e⟩ | ⟨b, rest, hq, hb, e⟩ | ⟨hq, ht, e⟩ | ⟨hq, ht, e⟩ := ruleReqWait_cases s <;> rw [e]
  · exact .modeByte hst rest hq
  · exact .invalid hst b rest hq hb
  · exact .timeout hst hq ht
  · exact .tick (by rw [hst]; rfl) (fun _ => hq) ht

theorem ruleReqId_move (hst : s.st = .reqId) : Move i s (ruleReqId s) := by
  obtain ⟨m, rest, hq, e⟩ | ⟨hq, e⟩ := ruleReqId_cases s <;> rw [e]
  · rw [dispatchModule_eq]
    exact .moduleByte hst m rest hq
  · exact .hold (by rw [hst]; rfl) hq

theorem ruleBuild_move (hst : s.st = .build) (h : ruleBuild i s = .ok t) : Move i s t := by
  by_cases haddr : i.bldWe = true ∧ s.cfg.txCapacity ≤ bldAddrOf i s
  · rw [ruleBuild_addrFault haddr.1 haddr.2, Except.ok.injEq] at h
    exact h ▸ .fault _ (.buildAddr hst haddr.1 haddr.2)
  · have inside : WritesInside i s := fun hwe => not_le.mp fun h => haddr ⟨hwe, h⟩
    by_cases hlen : i.bldDone = true ∧ s.cfg.txCapacity < bldLenOf i s
    · rw [ruleBuild_lengthFault haddr hlen.1 hlen.2, Except.ok.injEq] at h
      exact h ▸ .fault _ (.txLength hst haddr hlen.1 hlen.2)
    · rw [ruleBuild_applied haddr hlen, Except.ok.injEq, buildWrite_eq] at h
      cases hdone : i.bldDone with
      | true =>
        rw [hdone, if_pos rfl] at h
        exact h ▸ .built hst inside hdone (not_lt.mp fun h => hlen ⟨hdone, h⟩)
      | false =>
        rw [hdone, if_neg Bool.false_ne_true] at h
        exact h ▸ .building hst inside hdone

theorem ruleTxSettle_move (hst : s.st = .txSettle) : Move i s (ruleTxSettle s) := by
  obtain ht | ht := Nat.eq_zero_or_pos s.timer
  · obtain hlen | hlen := Nat.eq_zero_or_pos s.len
    · exact ruleTxSettle_empty ht hlen ▸ .settledEmpty hst ht hlen
    · exact ruleTxSettle_begin ht hlen ▸ .settled hst ht hlen
  · exact ruleTxSettle_counting ht ▸ .tick (by rw [hst]; rfl) (by rw [hst]; nofun) ht

theorem ruleTxByte_move (hst : s.st = .txByte) (h : ruleTxByte i s = .ok t) : Move i s t := by
  obtain ⟨hready, rfl⟩ | ⟨hready, hlast, hidx, rfl⟩ | ⟨hready, hlast, hidx, rfl⟩ := ruleTxByte_cases h
  · exact .stall hst hready
  · exact .sendChecksum hst hready hlast hidx
  · exact .sendByte hst hready hlast hidx

theorem ruleTxGap_move (hst : s.st = .txGap) : Move i s (ruleTxGap s) := by
  unfold ruleTxGap
  split
  next ht =>
    split
    next hlast => exact .sent hst ht (by simpa [atLastByte] using hlast)
    next hlast => exact .nextByte hst ht (by simpa [atLastByte] using hlast)
  next ht => exact .tick (by rw [hst]; rfl) (by rw [hst]; nofun) (Nat.pos_of_ne_zero ht)

theorem ruleTxDrain_move (hst : s.st = .txDrain) : Move i s (ruleTxDrain s) := by
  by_cases hend : s.drainRem = 0 ∨ s.rxQueue = []
  · exact ruleTxDrain_end hend ▸ .drained hst hend
  · obtain ⟨hrem, hq⟩ := not_or.mp hend
    exact ruleTxDrain_discard (Nat.pos_of_ne_zero hrem) hq ▸ .drain hst (Nat.pos_of_ne_zero hrem) hq

theorem ruleRfSettle_move (hst : s.st = .rfSettle) : Move i s (ruleRfSettle s) := by
  obtain ht | ht := Nat.eq_zero_or_pos s.timer
  · exact ruleRfSettle_over ht ▸ .poll hst ht
  · exact ruleRfSettle_counting ht ▸ .tick (by rw [hst]; rfl) (by rw [hst]; nofun) ht

theorem ruleRfPoll_move (hst : s.st = .rfPoll) : Move i s (ruleRfPoll s) := by
  obtain ⟨hq, e⟩ | ⟨hq, ht, e⟩ | ⟨hq, ht, e⟩ := ruleRfPoll_cases s <;> rw [e]
  · exact .heard hst hq
  · exact .pollTimeout hst hq ht
  · exact .tick (by rw [hst]; rfl) (fun _ => hq) ht

theorem ruleRfScan_move (hst : s.st = .rfScan) (h : ruleRfScan s = .ok t) : Move i s t := by
  obtain ⟨hq, rfl⟩ | ⟨hq, hfull, rfl⟩ | ⟨b, rest, hq, hroom, rfl⟩ := ruleRfScan_cases h
  · exact .hold (by rw [hst]; rfl) hq
  · exact .fault _ (.rxOverrun (.inl hst) hq hfull)
  · exact .store hst b rest hq hroom

theorem ruleRfTrail_move (hst : s.st = .rfTrail) (h : ruleRfTrail s = .ok t) : Move i s t := by
  obtain ⟨hq, rfl⟩ | ⟨hq, hfull, rfl⟩ | ⟨b, rest, hq, hroom, rfl⟩ := ruleRfTrail_cases h
  · exact .hold (by rw [hst]; rfl) hq
  · exact .fault _ (.rxOverrun (.inr hst) hq hfull)
  · exact .frame hst b rest hq hroom

/-- The rule of a state makes one of the transitions (R36). -/
theorem cycleRule_move (h : cycleRule i s = .ok t) : Move i s t := by
  unfold cycleRule at h
  cases hst : s.st <;> simp only [hst, Except.ok.injEq] at h
  case stopped => exact h ▸ ruleStopped_move hst
  case top => exact h ▸ ruleTop_move hst
  case reqWait => exact h ▸ ruleReqWait_move hst
  case reqId => exact h ▸ ruleReqId_move hst
  case build => exact ruleBuild_move hst h
  case txSettle => exact h ▸ ruleTxSettle_move hst
  case txByte => exact ruleTxByte_move hst h
  case txGap => exact h ▸ ruleTxGap_move hst
  case txDrain => exact h ▸ ruleTxDrain_move hst
  case rfSettle => exact h ▸ ruleRfSettle_move hst
  case rfPoll => exact h ▸ ruleRfPoll_move hst
  case rfScan => exact ruleRfScan_move hst h
  case rfTrail => exact ruleRfTrail_move hst h
  case fault =>
    subst h
    exact .stuck hst

theorem countsDown_iff (st : St) :
    countsDown st = true ↔ st = .reqWait ∨ st = .rfSettle ∨ st = .rfPoll ∨ st = .txSettle ∨ st = .txGap := by
  cases st <;> simp [countsDown]

theorem awaitsByte_iff (st : St) : awaitsByte st = true ↔ st = .reqId ∨ st = .rfScan ∨ st = .rfTrail := by
  cases st <;> simp [awaitsByte]

/-- A timed wait that is not over counts down, whichever of the five it is (R156). -/
theorem cycleRule_tick (hst : countsDown s.st = true) (silent : listens s.st = true → s.rxQueue = [])
    (ht : 0 < s.timer) (i : CycleIn) : cycleRule i s = .ok { s with timer := s.timer - 1 } := by
  obtain hs | hs | hs | hs | hs := (countsDown_iff s.st).mp hst
  · have hq : s.rxQueue = [] := silent (by rw [hs]; rfl)
    have hrule : cycleRule i s = .ok (ruleReqWait s) := by simp [cycleRule, hs]
    simp [hrule, ruleReqWait, hq, ht.ne']
  · have hrule : cycleRule i s = .ok (ruleRfSettle s) := by simp [cycleRule, hs]
    rw [hrule, ruleRfSettle_counting ht]
  · have hrule : cycleRule i s = .ok (ruleRfPoll s) := by simp [cycleRule, hs]
    rw [hrule, ruleRfPoll_counting (silent (by rw [hs]; rfl)) ht]
  · have hrule : cycleRule i s = .ok (ruleTxSettle s) := by simp [cycleRule, hs]
    rw [hrule, ruleTxSettle_counting ht]
  · have hrule : cycleRule i s = .ok (ruleTxGap s) := by simp [cycleRule, hs]
    rw [hrule, ruleTxGap_counting ht]

/-- A wait for a byte that is not there changes nothing (R163). -/
theorem cycleRule_hold (hst : awaitsByte s.st = true) (hq : s.rxQueue = []) (i : CycleIn) :
    cycleRule i s = .ok s := by
  obtain hs | hs | hs := (awaitsByte_iff s.st).mp hst
  · simp [cycleRule, hs, ruleReqId, hq]
  · simp [cycleRule, hs, ruleRfScan_empty hq]
  · simp [cycleRule, hs, ruleRfTrail_empty hq]

/-- Each transition is what the rule of its state answers, so the transitions say no more than the rules. -/
theorem Move.cycleRule_eq (move : Move i s t) : cycleRule i s = .ok t := by
  cases move with
  | tick hst silent ht => exact cycleRule_tick hst silent ht i
  | hold hst hq => exact cycleRule_hold hst hq i
  | fault code cause => exact cause.cycleRule_eq
  | enterLoop hst hstart hopen => simp [cycleRule, hst, ruleStopped_enter hstart hopen]
  | startFails hst hstart hclosed => simp [cycleRule, hst, ruleStopped_closed hstart hclosed]
  | receive hst hstart hrecv => simp [cycleRule, hst, ruleStopped_receive hstart hrecv]
  | idle hst hstart hrecv => simp [cycleRule, hst, ruleStopped_idle hstart hrecv]
  | exit hst hdown => simp [cycleRule, hst, ruleTop, hdown]
  | listen hst hdown => simp [cycleRule, hst, ruleTop, hdown]
  | modeByte hst rest hq => simp [cycleRule, hst, ruleReqWait, hq]
  | invalid hst b rest hq hb => simp [cycleRule, hst, ruleReqWait, hq, hb, rejectInvalid]
  | timeout hst hq ht => simp [cycleRule, hst, ruleReqWait, hq, ht]
  | moduleByte hst m rest hq =>
    simp only [cycleRule, hst, ruleReqId, hq, dispatchModule_eq]
    rfl
  | building hst inside hdone =>
    have haddr : ¬(i.bldWe = true ∧ s.cfg.txCapacity ≤ bldAddrOf i s) := fun h => (inside h.1).not_ge h.2
    simp [cycleRule, hst, ruleBuild_applied haddr (by simp [hdone]), hdone, buildWrite_eq]
  | built hst inside hdone hlen =>
    have haddr : ¬(i.bldWe = true ∧ s.cfg.txCapacity ≤ bldAddrOf i s) := fun h => (inside h.1).not_ge h.2
    simp [cycleRule, hst, ruleBuild_applied haddr (fun h => h.2.not_ge hlen), hdone, buildWrite_eq]
  | settledEmpty hst ht hlen => simp [cycleRule, hst, ruleTxSettle_empty ht hlen]
  | settled hst ht hlen => simp [cycleRule, hst, ruleTxSettle_begin ht hlen]
  | stall hst hready => simp [cycleRule, hst, ruleTxByte_stalled hready]
  | sendChecksum hst hready hlast hidx =>
    simp only [cycleRule, hst, ruleTxByte, hready, atLastByte, hlast, beq_self_eq_true, if_true, bufWriteTx_of_lt hidx]
    rfl
  | sendByte hst hready hlast hidx =>
    simp only [cycleRule, hst, ruleTxByte, hready, atLastByte, beq_iff_eq, hlast, if_true, if_false,
      bufReadTx_of_lt hidx]
    rfl
  | sent hst ht hlast => simp [cycleRule, hst, ruleTxGap, ht, atLastByte, hlast]
  | nextByte hst ht hlast => simp [cycleRule, hst, ruleTxGap, ht, atLastByte, hlast]
  | drain hst hrem hq => simp [cycleRule, hst, ruleTxDrain_discard hrem hq]
  | drained hst hend => simp [cycleRule, hst, ruleTxDrain_end hend]
  | poll hst ht => simp [cycleRule, hst, ruleRfSettle_over ht]
  | heard hst hq => simp [cycleRule, hst, ruleRfPoll_heard hq]
  | pollTimeout hst hq ht => simp [cycleRule, hst, ruleRfPoll_timeout hq ht]
  | store hst b rest hq hroom => simp [cycleRule, hst, ruleRfScan_store hq hroom]
  | frame hst b rest hq hroom => simp [cycleRule, hst, ruleRfTrail_store hq hroom]
  | stuck hst => simp [cycleRule, hst, ruleFault]

/-- A clock cycle without reset is exactly one transition of the begun state. -/
theorem clockOn_ok_iff (hrst : i.rst = false) : clockOn i s = .ok t ↔ Move i (beginCycle i s) t := by
  rw [clockOn_rule hrst]
  exact ⟨cycleRule_move, Move.cycleRule_eq⟩

/-- A clock cycle is a reset or a transition. -/
theorem clockOn_move (h : clockOn i s = .ok t) :
    (i.rst = true ∧ t = applyReset (beginCycle i s)) ∨ (i.rst = false ∧ Move i (beginCycle i s) t) :=
  (clockOn_cases h).imp_right fun ⟨hrst, hrule⟩ => ⟨hrst, cycleRule_move hrule⟩

end

end Sys2Proof.Machine
end

section
/-! PROOFS about one clock cycle: its frame, and the whole-machine rules that follow from its transitions (R22, R33, R38 to R41,
R45, R147, R156, R163, R167). -/

namespace Sys2Proof.Machine

section
variable {i : CycleIn} {s t : State}

/-! ## The frame of a cycle -/

theorem KeepsModel.refl (s : State) : KeepsModel s s := ⟨rfl, rfl, rfl, rfl, rfl, rfl⟩

/-- No transition writes a parameter, the model's own fields or the environment's levels. -/
theorem Move.keepsModel (move : Move i s t) : KeepsModel s t := by
  cases move <;> constructor <;> simp

theorem Move.inputs (move : Move i s t) : t.inputs = s.inputs := by
  cases move <;> simp

/-- No cycle writes a parameter (R16), the model's own fields or the environment's levels. -/
theorem clockOn_keepsModel (h : clockOn i s = .ok t) : KeepsModel s t := by
  obtain ⟨-, rfl⟩ | ⟨-, move⟩ := clockOn_move h
  · exact ⟨rfl, rfl, rfl, rfl, rfl, rfl⟩
  · have keeps : KeepsModel (beginCycle i s) t := move.keepsModel
    exact ⟨keeps.cfg, keeps.echo, keeps.held, keeps.args, keeps.result, keeps.opWord⟩

/-- A cycle takes the port values of one cycle. -/
theorem clockOn_inputs (h : clockOn i s = .ok t) : t.inputs = s.inputs.tail := by
  obtain ⟨-, rfl⟩ | ⟨-, move⟩ := clockOn_move h
  · rfl
  · exact move.inputs

/-! ## Reset -/

/-- Settles O12: the cycle is the reset rule at the begun cycle. -/
theorem resetCycleRule : Obligations.ResetCycleRule := by
  unfold Obligations.ResetCycleRule
  intro i s hrst
  exact ⟨_, clockOn_reset hrst s, rfl, rfl, rfl, rfl, rfl, rfl, rfl, rfl, rfl, rfl, rfl, rfl, rfl, rfl, rfl, rfl,
    fun _ => rfl, fun _ => rfl, rfl, rfl, rfl, rfl, rfl, rfl, rfl, rfl, rfl, rfl, rfl, ⟨rfl, rfl, rfl, rfl, rfl, rfl⟩⟩

/-- Settles O13: the fields of the reset state. -/
theorem stateAfterReset : Obligations.StateAfterReset := by
  unfold Obligations.StateAfterReset
  intro c
  exact ⟨_, rfl, rfl, rfl, rfl, rfl, rfl, rfl, rfl, rfl, rfl, rfl, rfl, rfl, rfl, rfl, rfl, rfl, rfl, rfl, rfl, rfl, rfl,
    rfl, rfl⟩

/-! ## Input ports -/

/-- The rule of a state reads the ports that its text names, and no other (R22). -/
theorem cycleRule_congr {i j : CycleIn}
    (hstopped : s.st = .stopped →
      i.start = j.start ∧ i.recvCmd = j.recvCmd ∧ (i.start = true → i.transportOk = j.transportOk))
    (htop : s.st = .top → i.shutdown = j.shutdown)
    (hbuild : s.st = .build → i.bldWe = j.bldWe ∧ i.bldDone = j.bldDone ∧ (i.bldDone = true → i.bldLen = j.bldLen) ∧
      (i.bldWe = true → i.bldAddr = j.bldAddr ∧ i.bldWdata = j.bldWdata))
    (htxByte : s.st = .txByte → i.txReady = j.txReady) : cycleRule i s = cycleRule j s := by
  unfold cycleRule
  split
  next hst =>
    obtain ⟨hstart, hrecv, hopen⟩ := hstopped hst
    simp only [ruleStopped, ← hstart, ← hrecv]
    split
    next pulse => rw [hopen pulse]
    next => rfl
  next hst => simp only [ruleTop, htop hst]
  all_goals try rfl
  next hst =>
    obtain ⟨hwe, hdone, hlen, hwrite⟩ := hbuild hst
    have sameLen : i.bldDone = true → bldLenOf i s = bldLenOf j s := fun h => by rw [bldLenOf, bldLenOf, hlen h]
    have sameAddr : i.bldWe = true → bldAddrOf i s = bldAddrOf j s ∧ i.bldWdata = j.bldWdata := fun h =>
      ⟨by rw [bldAddrOf, bldAddrOf, (hwrite h).1], (hwrite h).2⟩
    cases hd : i.bldDone <;> cases hw : i.bldWe <;> simp_all [ruleBuild]
  next hst => simp only [ruleTxByte, htxByte hst]

/-- Settles O14: the begun cycles are the same, and the rule reads what its state names. -/
theorem inputsReadOnlyWhereRuled : Obligations.InputsReadOnlyWhereRuled := by
  unfold Obligations.InputsReadOnlyWhereRuled
  intro i j s hi hj hrx hraddr hstopped htop hbuild htxByte
  have begun : beginCycle i s = beginCycle j s := by rw [beginCycle, beginCycle, hrx, hraddr]
  rw [clockOn_rule hi, clockOn_rule hj, begun]
  exact cycleRule_congr hstopped htop hbuild htxByte

/-- Settles O45: outside `STOPPED` no rule reads `recv_cmd` (O14), and in it `start` is read first (R147). -/
theorem recvCmdCountsOnlyInStopped : Obligations.RecvCmdCountsOnlyInStopped := by
  unfold Obligations.RecvCmdCountsOnlyInStopped
  intro i s h
  unfold clockOn
  refine if_congr Iff.rfl rfl ?_
  by_cases hst : s.st = .stopped
  · have hstart : i.start = true := h.resolve_left (not_not.mpr hst)
    simp [cycleRule, hst, ruleStopped, hstart, beginCycle, State.rfRdata, State.rxAt]
  · exact cycleRule_congr (s := beginCycle i s) (fun h => absurd h hst) (fun _ => rfl)
      (fun _ => ⟨rfl, rfl, fun _ => rfl, fun _ => ⟨rfl, rfl⟩⟩) (fun _ => rfl)

/-! ## The timer -/

/-- A fault is raised in `BUILD`, `RF_SCAN` or `RF_TRAIL` (R149). -/
theorem FaultCause.raisedIn {c : FaultCode} (cause : FaultCause i s c) :
    s.st = .build ∨ s.st = .rfScan ∨ s.st = .rfTrail := by
  cases cause with
  | rxOverrun storing => exact .inr storing
  | buildAddr building => exact .inl building
  | txLength building => exact .inl building

/-- `timer` after a cycle, by the state before it and the state after it (R156). -/
def timerAfter (s : State) (next : St) : Nat :=
  match s.st, next with
  | .top, .reqWait => s.cfg.cTimeout
  | .rfSettle, .rfPoll => s.cfg.cTimeout
  | .build, .txSettle => s.cfg.cPostRecv
  | .txByte, .txGap => s.cfg.cInterbyte
  | .stopped, .rfSettle => s.cfg.cRxSettle
  | .reqWait, .reqWait => s.timer - 1
  | .rfSettle, .rfSettle => s.timer - 1
  | .rfPoll, .rfPoll => s.timer - 1
  | .txSettle, .txSettle => s.timer - 1
  | .txGap, .txGap => s.timer - 1
  | _, _ => s.timer

theorem Move.timer (move : Move i s t) : t.timer = timerAfter s t.st := by
  cases move with
  | tick hst => obtain h | h | h | h | h := (countsDown_iff s.st).mp hst <;> simp [timerAfter, h]
  | hold hst => obtain h | h | h := (awaitsByte_iff s.st).mp hst <;> simp [timerAfter, h]
  | fault code cause => obtain h | h | h := cause.raisedIn <;> simp [timerAfter, h]
  | moduleByte hst m => cases hm : s.cfg.supports m <;> simp [timerAfter, hst]
  | store hst b => by_cases hb : b = s.cfg.terminator <;> simp [timerAfter, hst, hb]
  | _ => simp [timerAfter, *]

/-- A timed wait goes on only while its timer runs (R156). -/
theorem Move.timer_pos (move : Move i s t) (hst : countsDown s.st = true) (stays : t.st = s.st) : 0 < s.timer := by
  cases move with
  | tick _ _ ht => exact ht
  | hold hold => obtain h | h | h := (awaitsByte_iff s.st).mp hold <;> simp [h, countsDown] at hst
  | fault code cause => obtain h | h | h := cause.raisedIn <;> simp [h, countsDown] at hst
  | moduleByte hst' => simp [hst', countsDown] at hst
  | store hst' => simp [hst', countsDown] at hst
  | _ => simp_all [countsDown]

/-- Settles O17: every transition gives `timer` its value, and a wait goes on by a tick alone. -/
theorem timerCountsOneWaitDown : Obligations.TimerCountsOneWaitDown := by
  unfold Obligations.TimerCountsOneWaitDown
  intro i s t h hrst
  have move : Move i (beginCycle i s) t := (clockOn_ok_iff hrst).mp h
  exact ⟨move.timer, fun stays hst => move.timer_pos ((countsDown_iff s.st).mpr hst) stays⟩

/-! ## The TX stream -/

/-- `TX_BYTE` with a ready transport sends one byte: the checksum where the frame ends, else the byte at `idx` (R104). -/
theorem Move.sends (move : Move i s t) (hst : s.st = .txByte) (hready : i.txReady = true) :
    ∃ v, v = (if s.idx + 1 = s.len then s.csum else s.txAt s.idx) ∧ t.txStream = s.txStream ++ [v] ∧
      t.outs.txWrite = true ∧ t.outs.txData = v ∧ t.rxQueue = s.rxQueue ++ (if s.echo then [v] else []) := by
  have queued : ∀ v, (txWrite v s).rxQueue = s.rxQueue ++ (if s.echo then [v] else []) := by
    intro v
    cases hecho : s.echo <;> simp [hecho]
  cases move with
  | sendChecksum _ _ hlast => exact ⟨s.csum, by rw [if_pos hlast], rfl, rfl, rfl, queued _⟩
  | sendByte _ _ hlast => exact ⟨s.txAt s.idx, by rw [if_neg hlast], rfl, rfl, rfl, queued _⟩
  | tick h => simp [hst, countsDown] at h
  | hold h => simp [hst, awaitsByte] at h
  | fault code cause => obtain h | h | h := cause.raisedIn <;> simp [hst] at h
  | _ => simp_all

/-- Every other transition sends nothing (R41). -/
theorem Move.sends_nothing (move : Move i s t) (h : ¬(s.st = .txByte ∧ i.txReady = true)) :
    t.txStream = s.txStream ∧ t.outs.txWrite = s.outs.txWrite ∧ t.outs.txData = s.outs.txData := by
  cases move with
  | sendChecksum hst hready => exact absurd ⟨hst, hready⟩ h
  | sendByte hst hready => exact absurd ⟨hst, hready⟩ h
  | invalid | timeout => simp [resync_outs]
  | moduleByte => simp [reconnect_outs]
  | _ => exact ⟨rfl, rfl, rfl⟩

/-- Settles O19: by the transition, at the begun cycle, where the wires are low. -/
theorem bytesWrittenOnlyInTxByte : Obligations.BytesWrittenOnlyInTxByte := by
  unfold Obligations.BytesWrittenOnlyInTxByte
  intro i s t h
  obtain ⟨hrst, rfl⟩ | ⟨hrst, move⟩ := clockOn_move h
  · simp [hrst]
  · refine ⟨fun ⟨_, hst, hready⟩ => move.sends hst hready, fun hno => ?_⟩
    have other : ¬((beginCycle i s).st = .txByte ∧ i.txReady = true) := fun ⟨hst, hready⟩ => hno ⟨hrst, hst, hready⟩
    simpa using move.sends_nothing other

/-- A cycle appends to the TX stream (R41, R50). -/
theorem clockOn_txStream (h : clockOn i s = .ok t) : s.txStream <+: t.txStream := by
  by_cases hsend : i.rst = false ∧ s.st = .txByte ∧ i.txReady = true
  · obtain ⟨v, -, hv, -⟩ := (bytesWrittenOnlyInTxByte i s t h).1 hsend
    exact ⟨[v], hv.symm⟩
  · rw [((bytesWrittenOnlyInTxByte i s t h).2 hsend).1]

/-! ## The RX queue -/

/-- A transition that asserts `rx_pop` takes the head byte (R40). -/
structure Pops (s t : State) : Prop where
  wire : t.outs.rxPop = true
  head : ∃ b, s.rxQueue = b :: t.rxQueue
  reader : s.st = .reqWait ∨ s.st = .reqId ∨ s.st = .rfScan ∨ s.st = .rfTrail ∨ s.st = .txDrain

/-- A transition that does not leaves the queue, but for the echo (R33, R40). -/
structure LeavesQueue (s t : State) : Prop where
  wire : t.outs.rxPop = s.outs.rxPop
  queue : t.rxQueue = s.rxQueue ++ (if s.echo then t.txStream.drop s.txStream.length else [])

/-- What leaves queue, wire and TX stream alone takes nothing. -/
theorem LeavesQueue.of_eq (wire : t.outs.rxPop = s.outs.rxPop) (queue : t.rxQueue = s.rxQueue)
    (sent : t.txStream = s.txStream) : LeavesQueue s t :=
  ⟨wire, by simp [queue, sent]⟩

theorem Move.pops_or_leaves (move : Move i s t) : Pops s t ∨ LeavesQueue s t := by
  cases move with
  | modeByte hst rest hq => exact .inl ⟨rfl, ⟨s.cfg.sentinel, by simp [hq]⟩, by simp [hst]⟩
  | invalid hst b rest hq => exact .inl ⟨by simp [resync_outs], ⟨b, by simp [hq]⟩, by simp [hst]⟩
  | moduleByte hst m rest hq => exact .inl ⟨by simp [reconnect_outs], ⟨m, by simp [hq]⟩, by simp [hst]⟩
  | drain hst hrem hq =>
    obtain ⟨b, rest, hq⟩ := List.exists_cons_of_ne_nil hq
    exact .inl ⟨rfl, ⟨b, by simp [hq]⟩, by simp [hst]⟩
  | store hst b rest hq => exact .inl ⟨rfl, ⟨b, by simp [hq]⟩, by simp [hst]⟩
  | frame hst b rest hq => exact .inl ⟨rfl, ⟨b, by simp [hq]⟩, by simp [hst]⟩
  | sendChecksum | sendByte => exact .inr ⟨rfl, by cases hs : s.echo <;> simp [hs]⟩
  | timeout => exact .inr (.of_eq (by simp [resync_outs]) (by simp) (by simp))
  | _ => exact .inr (.of_eq rfl rfl rfl)

/-- Settles O20: a transition pops the head or leaves the queue, and reset leaves it. -/
theorem atMostOneBytePopped : Obligations.AtMostOneBytePopped := by
  unfold Obligations.AtMostOneBytePopped
  intro i s t h
  obtain ⟨-, rfl⟩ | ⟨hrst, move⟩ := clockOn_move h
  · simp
  · obtain pops | leaves := move.pops_or_leaves
    · refine ⟨fun _ => ⟨pops.head, hrst, pops.reader⟩, fun low => ?_, fun hst => ?_⟩
      · simp [pops.wire] at low
      · have reader := pops.reader
        simp [hst] at reader
    · have low : t.outs.rxPop = false := leaves.wire
      exact ⟨fun high => absurd (high.symm.trans low) Bool.noConfusion, fun _ => leaves.queue, fun _ => low⟩

/-! ## The buffers -/

theorem txAt_write_ne {m : Memory} {k a : Nat} {b : Byte} (hbuf : t.txbuf = m.write k b) (hm : m = s.txbuf)
    (ha : a ≠ k) : t.txAt a = s.txAt a := by
  rw [State.txAt, State.txAt, hbuf, hm, read_write_ne _ _ ha]

theorem rxAt_write_ne {m : Memory} {k a : Nat} {b : Byte} (hbuf : t.rxbuf = m.write k b) (hm : m = s.rxbuf)
    (ha : a ≠ k) : t.rxAt a = s.rxAt a := by
  rw [State.rxAt, State.rxAt, hbuf, hm, read_write_ne _ _ ha]

/-- The builder writes at `bld_addr` and nowhere else (R38). -/
theorem builtBuf_read_ne {a : Nat} (h : ¬(i.bldWe = true ∧ a = bldAddrOf i s)) :
    (builtBuf i s).read? a = s.txbuf.read? a := by
  unfold builtBuf
  split
  next hwe => exact read_write_ne _ _ fun ha => h ⟨hwe, ha⟩
  next => rfl

/-- A transition writes `txbuf` for the builder or for the checksum (R38). -/
theorem Move.txAt (move : Move i s t) {a : Nat}
    (builder : ¬(s.st = .build ∧ i.bldWe = true ∧ a = bldAddrOf i s))
    (checksum : ¬(s.st = .txByte ∧ i.txReady = true ∧ s.idx + 1 = s.len ∧ a = s.idx)) : t.txAt a = s.txAt a := by
  cases move with
  | building hst | built hst =>
    exact congrArg (Option.getD · _) (builtBuf_read_ne fun h => builder ⟨hst, h⟩)
  | sendChecksum hst hready hlast =>
    exact txAt_write_ne rfl rfl fun ha => checksum ⟨hst, hready, hlast, ha⟩
  | invalid | timeout | moduleByte => exact txAt_congr (by simp) a
  | _ => rfl

/-- A transition writes `rxbuf` where RECV_FRAME stores a byte (R39). -/
theorem Move.rxAt (move : Move i s t) {a : Nat}
    (store : ¬((s.st = .rfScan ∨ s.st = .rfTrail) ∧ s.rxQueue ≠ [] ∧ s.rxCount < s.cfg.rxCapacity ∧ a = s.rxCount)) :
    t.rxAt a = s.rxAt a := by
  cases move with
  | store hst b rest hq hroom =>
    exact rxAt_write_ne rfl rfl fun ha => store ⟨.inl hst, by simp [hq], hroom, ha⟩
  | frame hst b rest hq hroom =>
    exact rxAt_write_ne rfl rfl fun ha => store ⟨.inr hst, by simp [hq], hroom, ha⟩
  | invalid | timeout | moduleByte => exact rxAt_congr (by simp) a
  | _ => rfl

/-- Settles O21: the transitions that write a buffer are the named writers, and reset writes none. -/
theorem buffersChangeOnlyByTheirWriters : Obligations.BuffersChangeOnlyByTheirWriters := by
  unfold Obligations.BuffersChangeOnlyByTheirWriters
  intro i s t h a
  obtain ⟨-, rfl⟩ | ⟨hrst, move⟩ := clockOn_move h
  · exact ⟨fun _ _ => rfl, fun _ => rfl⟩
  · exact ⟨fun builder checksum => move.txAt (s := beginCycle i s) (fun h => builder ⟨hrst, h⟩) fun h => checksum ⟨hrst, h⟩,
      fun store => move.rxAt (s := beginCycle i s) fun h => store ⟨hrst, h⟩⟩

/-- `rf_rdata` is set where the cycle begins (R44). -/
theorem Move.rfRdata (move : Move i s t) : t.outs.rfRdata = s.outs.rfRdata := by
  cases move with
  | invalid | timeout => simp [resync_outs]
  | moduleByte => simp [reconnect_outs]
  | _ => rfl

/-- Settles O25: the begun cycle shows `rxbuf`, and neither a transition nor reset drives the wire. -/
theorem readPortShowsRxbuf : Obligations.ReadPortShowsRxbuf := by
  unfold Obligations.ReadPortShowsRxbuf
  intro i s t h
  obtain ⟨-, rfl⟩ | ⟨-, move⟩ := clockOn_move h
  · rfl
  · exact move.rfRdata

end

/-! ## Single rules -/

/-- Settles O27: each clause is one transition of `REQ_WAIT`. -/
theorem byteWinsOverTimeout : Obligations.ByteWinsOverTimeout := by
  unfold Obligations.ByteWinsOverTimeout
  intro i s hst hrst
  have hst : (beginCycle i s).st = .reqWait := hst
  have hclock : clockOn i s = .ok (ruleReqWait (beginCycle i s)) := by
    rw [clockOn_rule hrst]
    simp only [cycleRule, hst]
  have rule_eq : ∀ t, Move i (beginCycle i s) t → ruleReqWait (beginCycle i s) = t := fun t move =>
    Except.ok.inj (hclock.symm.trans ((clockOn_ok_iff hrst).mpr move))
  refine ⟨_, hclock, fun rest hq => ?sentinel, fun b rest hq hb => ?other, fun hq ht => ?timeout, fun hq ht => ?counts⟩
  case sentinel =>
    rw [rule_eq _ (.modeByte hst rest hq)]
    simp [hq]
  case other =>
    rw [rule_eq _ (.invalid hst b rest hq hb)]
    simp [resync_outs, resyncResult, hq]
  case timeout =>
    rw [rule_eq _ (.timeout hst hq ht)]
    simpa [resync_outs, resyncResult] using hq
  case counts =>
    rw [rule_eq _ (.tick (by rw [hst]; rfl) (fun _ => hq) ht)]
    exact ⟨hst, hq, rfl, Nat.sub_add_cancel ht, rfl, rfl⟩

/-- Settles O24: each of the five waits has a transition that changes nothing. -/
theorem unboundedWaitsHold : Obligations.UnboundedWaitsHold := by
  unfold Obligations.UnboundedWaitsHold
  intro i s hrst hwait hwe
  have holds : Move i (beginCycle i s) (beginCycle i s) := by
    unfold waitingIn at hwait
    split at hwait
    next hst => exact .hold (by simp [hst, awaitsByte]) (by simpa using hwait)
    next hst => exact .hold (by simp [hst, awaitsByte]) (by simpa using hwait)
    next hst => exact .hold (by simp [hst, awaitsByte]) (by simpa using hwait)
    next hst =>
      have unwritten : builtBuf i (beginCycle i s) = s.txbuf := by simp [builtBuf, hwe hst]
      have goesOn : Move i (beginCycle i s) { beginCycle i s with txbuf := builtBuf i (beginCycle i s) } :=
        .building hst (by simp [WritesInside, hwe hst]) (by simpa using hwait)
      rwa [unwritten] at goesOn
    next hst => exact .stall hst (by simpa using hwait)
    next => cases hwait
  exact ⟨_, (clockOn_ok_iff hrst).mpr holds, rfl, rfl, rfl, rfl, rfl, rfl, rfl, rfl, ⟨rfl, rfl, rfl⟩,
    ⟨rfl, rfl, rfl, rfl⟩, ⟨rfl, rfl, rfl, rfl, fun _ => rfl, rfl⟩, ⟨rfl, rfl, rfl, fun _ => rfl⟩,
    ⟨rfl, rfl, rfl, rfl, rfl, rfl⟩⟩

/-! ## Operations of one cycle -/

/-- Settles O31: SCAN writes its result alone. -/
theorem scanIsTerminatorTest : Obligations.ScanIsTerminatorTest := by
  unfold Obligations.ScanIsTerminatorTest
  intro s
  rfl

/-- Settles O35: START is the second clause of the `STOPPED` rule (O28), and `beginCycle` does not read `start`. -/
theorem startReportsClosedTransport : Obligations.StartReportsClosedTransport := by
  unfold Obligations.StartReportsClosedTransport
  intro s hst hrst hclosed
  obtain ⟨_, rfl, -, fails, -⟩ := stoppedCycleRule { s.thisInput with start := true } s hst hrst
  exact answer_next.mpr (fails rfl hclosed)

/-- Settles O49: the invoking cycle is the second clause of the `BUILD` rule (O26), and a stopped run takes no other. -/
theorem transmitTooLongFaults : Obligations.TransmitTooLongFaults := by
  unfold Obligations.TransmitTooLongFaults
  intro s hst hrst inside hlong
  obtain ⟨_, rfl, -, -, -, fails, -⟩ :=
    buildCycleRule { s.thisInput with bldDone := true, bldLen := s.args.length } s hst hrst
  have first := fails (fun h => (inside h.1).not_ge h.2) rfl hlong
  refine answer_next.mpr ?_
  rw [first]
  exact runWhile_idle rfl _

/-- Settles O51: the `TOP` cycle leaves the loop, and outside an iteration ITERATE takes no other. -/
theorem iterateExitsOnShutdown : Obligations.IterateExitsOnShutdown := by
  unfold Obligations.IterateExitsOnShutdown
  intro s hst hrst hdown
  have first : clock s = _ := (clockOn_ok_iff hrst).mpr (.exit (s := beginCycle s.thisInput s) hst hdown)
  refine answer_next.mpr ?_
  rw [first]
  exact runWhile_idle rfl _

/-! ## FINALIZE -/

/-- The wrapping sum of bytes is their unsigned sum modulo 256 (R74, R75). -/
theorem byteSum_eq_ofNat (bytes : List Byte) : byteSum bytes = BitVec.ofNat 8 (bytes.map BitVec.toNat).sum := by
  have from_acc : ∀ acc : Byte, bytes.foldl (fun acc b => acc + b) acc =
      acc + BitVec.ofNat 8 (bytes.map BitVec.toNat).sum := by
    induction bytes with
    | nil => simp
    | cons b rest ih =>
      intro acc
      simp [ih, BitVec.ofNat_add, BitVec.add_assoc]
  simpa [byteSum] using from_acc 0

/-- Settles O32: FINALIZE puts the payload's sum in the last slot (R73), and that sum is taken modulo 256. -/
theorem finalizeWritesSumModulo256 : Obligations.FinalizeWritesSumModulo256 := by
  unfold Obligations.FinalizeWritesSumModulo256
  intro s
  refine ⟨fun hempty => ?_, fun payload last sum hbuffer hsum => ?_⟩
  · rw [exec_finalize, hempty, finalizeChecksum_nil, ← hempty]
  · rw [exec_finalize, hbuffer, finalizeChecksum_concat, byteSum_eq_ofNat, ← hsum, respFrame, byteSum_eq_ofNat, ← hsum]

end Sys2Proof.Machine
end

section
/-! PROOFS about steps: a step without an operation word is a number of clock cycles (R36, D36), what runs for a decoded
instruction, and what a step is made of, whatever it runs. -/

namespace Sys2Proof.Machine

/-! ## Runs of cycles -/

theorem clocks_one (s : State) : clocks 1 s = clock s := by
  simp only [clocks]
  cases clock s <;> rfl

/-- One cycle and then `k` more. -/
theorem clocks_succ_of_clock {s u : State} (h : clock s = .ok u) (k : Nat) : clocks (k + 1) s = clocks k u := by
  rw [clocks, h]
  rfl

/-! ## Requests decoded from the wire -/

theorem clock_reqWait {s : State} (hst : s.st = .reqWait) (hrst : s.thisInput.rst = false) :
    clock s = .ok (ruleReqWait (beginCycle s.thisInput s)) := by
  rw [clock, clockOn_rule hrst]
  simp only [cycleRule, beginCycle_st, hst]

theorem clock_reqId {s : State} (hst : s.st = .reqId) (hrst : s.thisInput.rst = false) :
    clock s = .ok (ruleReqId (beginCycle s.thisInput s)) := by
  rw [clock, clockOn_rule hrst]
  simp only [cycleRule, beginCycle_st, hst]

/-- All that reading the module byte can decode (R65, R84). -/
theorem fetchModule_some {s u : State} {i : Instr} (h : fetchModule s = some (i, u)) :
    s.thisInput.rst = false ∧ ∃ m rest, (beginCycle s.thisInput s).rxQueue = m :: rest ∧ i = classify s.cfg m ∧
      u = popRx (beginCycle s.thisInput s) := by
  unfold fetchModule at h
  split at h
  next => cases h
  next hrst =>
    split at h
    next => cases h
    next m rest hq =>
      simp only [decode, decodeRequest_sentinel, Option.some.injEq, Prod.mk.injEq] at h
      exact ⟨by simpa using hrst, m, rest, hq, h.1.symm, h.2.symm⟩

/-- All that reading the mode byte can decode (R65, R83): another byte at once, `SENTINEL` with the module byte after it. -/
theorem fetchMode_some {s u : State} {i : Instr} (h : fetchMode s = some (i, u)) :
    s.thisInput.rst = false ∧ ∃ b rest, (beginCycle s.thisInput s).rxQueue = b :: rest ∧
      ((b ≠ s.cfg.sentinel ∧ i = .reqInvalid b ∧ u = popRx (beginCycle s.thisInput s)) ∨
       (b = s.cfg.sentinel ∧ fetchModule { popRx (beginCycle s.thisInput s) with st := .reqId } = some (i, u))) := by
  unfold fetchMode at h
  split at h
  next => cases h
  next hrst =>
    split at h
    next => cases h
    next b rest hq =>
      refine ⟨by simpa using hrst, b, rest, hq, ?_⟩
      by_cases hb : b = s.cfg.sentinel
      · exact .inr ⟨hb, by simpa [decode, decodeRequest, hb] using h⟩
      · simp only [decode, decodeRequest_invalid hb, Option.some.injEq, Prod.mk.injEq] at h
        exact .inl ⟨hb, h.1.symm, h.2.symm⟩

/-- A decoded two-byte request is the dispatch of its module and the cycles that serve it (R84, R126 to R130). -/
theorem exec_classify {u : State} (hst : u.st = .reqId) (m : Byte) :
    ∃ k, exec (classify u.cfg m) u = answer (clocks k (dispatchModule m u)) := by
  have served : ∀ v, ∃ k, answer (serve v) = answer (clocks k v) := fun v => by
    obtain ⟨k, -, hk⟩ := runWhile_clocks isServing (operationFuel v) v
    exact ⟨k, congrArg answer hk⟩
  unfold classify
  obtain ⟨hm, e⟩ | ⟨hne, hm, e⟩ | ⟨hne, hne', e⟩ := dispatchModule_cases m u <;> rw [e]
  · simpa only [hm, exec, execReqEam, hst, if_true] using served (acceptEam u)
  · simpa only [if_neg hne, if_pos hm, exec, execReqGps, hst, if_true] using served (acceptGps u)
  · exact ⟨0, by simp only [if_neg hne, if_neg hne', exec, execReqUnknown, hst, if_true, clocks]⟩

/-- Decoding and running a request from its module byte is the cycle that reads it and then cycles (R84). -/
theorem exec_fetchModule {s u : State} {i : Instr} (hst : s.st = .reqId) (h : fetchModule s = some (i, u)) :
    ∃ k, exec i u = answer (clocks (k + 1) s) := by
  obtain ⟨hrst, m, rest, hq, rfl, rfl⟩ := fetchModule_some h
  obtain ⟨k, hk⟩ := exec_classify (u := popRx (beginCycle s.thisInput s)) hst m
  have read : clock s = .ok (dispatchModule m (popRx (beginCycle s.thisInput s))) := by
    rw [clock_reqId hst hrst, ruleReqId, hq]
  exact ⟨k, by rw [clocks_succ_of_clock read]; exact hk⟩

/-- Decoding and running a request from its mode byte is the cycle that reads it and then cycles (R83, R84). -/
theorem exec_fetchMode {s u : State} {i : Instr} (hst : s.st = .reqWait) (h : fetchMode s = some (i, u)) :
    ∃ k, exec i u = answer (clocks (k + 1) s) := by
  obtain ⟨hrst, b, rest, hq, ⟨hb, rfl, rfl⟩ | ⟨hb, hmodule⟩⟩ := fetchMode_some h
  · refine ⟨0, ?_⟩
    have hb' : b ≠ (beginCycle s.thisInput s).cfg.sentinel := hb
    rw [zero_add, clocks_one, clock_reqWait hst hrst, ruleReqWait, hq]
    simp only [if_neg hb', exec, execReqInvalid, popRx_st, beginCycle_st, hst, if_true]
  · obtain ⟨k, hk⟩ := exec_fetchModule rfl hmodule
    have read : clock s = .ok { popRx (beginCycle s.thisInput s) with st := .reqId } := by
      have hb' : b = (beginCycle s.thisInput s).cfg.sentinel := hb
      rw [clock_reqWait hst hrst, ruleReqWait, hq]
      simp only [if_pos hb']
    exact ⟨k + 1, by rw [clocks_succ_of_clock read]; exact hk⟩

/-- Settles O6: a request is the cycles that read it and those that serve it, and every other step is one cycle. -/
theorem stepIsClockCycles : Obligations.StepIsClockCycles := by
  unfold Obligations.StepIsClockCycles
  intro s hc hword
  simp only [step, hc, if_true, hword]
  cases hfetch : fetchRequest s with
  | none => exact ⟨1, le_refl 1, by rw [clocks_one]⟩
  | some fetched =>
    have read : ∃ k, exec fetched.1 fetched.2 = answer (clocks (k + 1) s) := by
      unfold fetchRequest at hfetch
      split at hfetch
      next hst => exact exec_fetchMode hst hfetch
      next hst => exact exec_fetchModule hst hfetch
      next => cases hfetch
    obtain ⟨k, hk⟩ := read
    exact ⟨k + 1, Nat.le_add_left 1 k, hk⟩

/-! ## The decoded instruction -/

/-- A step that decodes a request from the wire runs it (R82). -/
theorem step_of_fetchRequest {s u : State} {i : Instr} (hc : s.cfg.ok = true) (hword : s.opWord = none)
    (h : fetchRequest s = some (i, u)) : step s = exec i u := by
  simp only [step, hc, if_true, hword, h]

/-- A byte queued before the cycle is the head in it. -/
theorem beginCycle_head {s : State} {b : Byte} {rest : List Byte} (hq : s.rxQueue = b :: rest) (i : CycleIn) :
    (beginCycle i s).rxQueue = b :: (rest ++ i.rx) := by
  simp [hq]

/-- The module byte queued in `REQ_ID` is decoded with `SENTINEL` (R65, R84). -/
theorem fetchModule_of_queued {s : State} {m : Byte} {rest : List Byte} {i : Instr} (hrst : s.thisInput.rst = false)
    (hq : s.rxQueue = m :: rest) (hi : decode s.cfg .wire [s.cfg.sentinel, m] = .ok (i, [])) :
    fetchModule s = some (i, popRx (beginCycle s.thisInput s)) := by
  rw [fetchModule, hrst, if_neg Bool.false_ne_true, beginCycle_head hq]
  simp only [hi]

/-- Settles O5: the three ways a request is read, and the operation word before them. -/
theorem stepRunsDecodedInstruction : Obligations.StepRunsDecodedInstruction := by
  unfold Obligations.StepRunsDecodedInstruction
  intro s hc
  refine ⟨fun w i hword hi => ?word, fun b rest hword hst hrst hq hb => ?invalid,
    fun m rest i u hword hst hrst hu hrst' hq hi => ?mode, fun m rest i hword hst hrst hq hi => ?module⟩
  case word => simp only [step, hc, if_true, hword, hi]
  case invalid =>
    refine step_of_fetchRequest hc hword ?_
    simp only [fetchRequest, hst, fetchMode, hrst, beginCycle_head hq, decode, decodeRequest_invalid hb]
    rfl
  case mode =>
    have hqu : u.rxQueue = m :: (rest ++ s.thisInput.rx) := by simp [hu, hq]
    have hcfg : u.cfg = s.cfg := by rw [hu]; rfl
    have hread := fetchModule_of_queued hrst' hqu (hcfg.symm ▸ hi)
    refine step_of_fetchRequest hc hword ?_
    rw [hu] at hread
    simp only [fetchRequest, hst, fetchMode, hrst, beginCycle_head hq, decode, decodeRequest, if_true]
    rw [hu]
    exact hread
  case module =>
    refine step_of_fetchRequest hc hword ?_
    simp only [fetchRequest, hst]
    exact fetchModule_of_queued hrst hq hi

/-! ## The request classes of no cycle -/

/-- Settles O56: the class is a reconnect and the way back to `TOP`. -/
theorem reqUnknownIsSkipped : Obligations.ReqUnknownIsSkipped := by
  unfold Obligations.ReqUnknownIsSkipped
  intro s m hst
  refine ⟨acceptUnknown m s, by simp [exec, execReqUnknown, hst], ?_⟩
  refine ⟨rfl, ?_⟩
  simp only [acceptUnknown, reconnect_events, reconnect_outs, reconnect_lastResult, reconnect_lastModule,
    reconnect_modId, reconnect_sync, reconnect_rxQueue, reconnect_timer, reconnect_inputs, true_and]
  exact ⟨by constructor <;> simp, ⟨by simp, by simp, by simp, by simp, txAt_congr (by simp), by simp⟩,
    ⟨by simp, by simp, by simp, rxAt_congr (by simp)⟩, by constructor <;> simp⟩

/-- Settles O57: the class is a resync. -/
theorem reqInvalidResyncs : Obligations.ReqInvalidResyncs := by
  unfold Obligations.ReqInvalidResyncs
  intro s b hst
  refine ⟨resync .invalid s, by simp [exec, execReqInvalid, rejectInvalid, hst], ?_⟩
  simp only [resync_events, resync_outs, resync_lastResult, resyncResult, resync_lastModule,
    resync_modId, resync_sync, resync_rxQueue, resync_timer, resync_inputs, resync_st, true_and]
  exact ⟨by constructor <;> simp, ⟨by simp, by simp, by simp, by simp, txAt_congr (by simp), by simp⟩,
    ⟨by simp, by simp, by simp, rxAt_congr (by simp)⟩, by constructor <;> simp⟩

end Sys2Proof.Machine
end

section
/-! PROOFS of the invariant (R20, R25, R28, R45, R156): it holds after reset, every cycle keeps it and, with it, answers a next
state. -/

namespace Sys2Proof.Machine

/-! ## The delays -/

theorem cTimeout_le_maxDelay (c : Config) : c.cTimeout ≤ c.maxDelay := by simp [Config.maxDelay]
theorem cPostRecv_le_maxDelay (c : Config) : c.cPostRecv ≤ c.maxDelay := by simp [Config.maxDelay]
theorem cInterbyte_le_maxDelay (c : Config) : c.cInterbyte ≤ c.maxDelay := by simp [Config.maxDelay]
theorem cRxSettle_le_maxDelay (c : Config) : c.cRxSettle ≤ c.maxDelay := by simp [Config.maxDelay]

/-! ## Reset -/

/-- A state with cleared registers and buffers that fit has the invariant, in `STOPPED` (R168). -/
theorem applyReset_inv {s : State} (hc : s.cfg.ok = true) (htx : s.txbuf.fits s.cfg.txCapacity)
    (hrx : s.rxbuf.fits s.cfg.rxCapacity) : Inv (applyReset s) where
  cfgOk := hc
  txbufFits := htx
  rxbufFits := hrx
  timerBound := Nat.zero_le _
  lenBound := Nat.zero_le _
  idxBound := Nat.zero_le _
  idxInFrame := by simp
  drainBound := Nat.zero_le _
  countBound := Nat.zero_le _
  trailCount := by simp
  faultSticky := by simp
  faultCoded := by simp
  frameLen := by simp
  noFrameLen := fun _ => rfl

/-- Settles O7: the reset state is a reset with empty buffers. -/
theorem invariantAfterReset : Obligations.InvariantAfterReset := by
  unfold Obligations.InvariantAfterReset
  intro c hc
  exact applyReset_inv (s := State.resetWith c) hc (fits_nil _) (fits_nil _)

/-! ## Transitions -/

section
variable {i : CycleIn} {s t : State}

theorem Inv.beginCycle (inv : Inv s) (i : CycleIn) : Inv (beginCycle i s) := { inv with }

theorem Inv.popRx (inv : Inv s) : Inv (popRx s) := { inv with }

theorem Inv.txWrite (inv : Inv s) (v : Byte) : Inv (txWrite v s) := { inv with }

theorem Inv.loseSync (inv : Inv s) : Inv (loseSync s) := by
  unfold Machine.loseSync
  split
  · exact { inv with }
  · exact inv

theorem Inv.regainSync (inv : Inv s) : Inv (regainSync s) := by
  unfold Machine.regainSync
  split
  · exact inv
  · exact { inv with }

/-- Outside `FAULT` the fault flag is low (R153). -/
theorem Inv.fault_low (inv : Inv s) (hs : s.st ≠ .fault) : s.fault = false :=
  Bool.eq_false_iff.mpr fun h => hs (inv.faultSticky.mp h)

/-- The states of which the invariant asks nothing more (R45, R151). -/
def plain : St → Bool
  | .txByte | .txGap | .rfTrail | .fault => false
  | .stopped | .top | .reqWait | .reqId | .build | .txSettle | .txDrain | .rfSettle | .rfPoll | .rfScan => true

/-- Such a state may be entered from anywhere but `FAULT`. -/
theorem Inv.enter (inv : Inv s) (hs : s.st ≠ .fault) {next : St} (hnext : plain next = true) :
    Inv { s with st := next } :=
  { inv with
    idxInFrame := by rintro (rfl | rfl) <;> cases hnext
    trailCount := by rintro rfl; cases hnext
    faultSticky := by
      have away : next ≠ .fault := by rintro rfl; cases hnext
      simp [inv.fault_low hs, away] }

theorem Inv.resync (inv : Inv s) (hs : s.st ≠ .fault) (o : Resync) : Inv (resync o s) :=
  have recorded : Inv { s with lastResult := resyncResult o } := { inv with }
  recorded.loseSync.enter (by simpa using hs) rfl

/-- A reconnect goes on in `BUILD` or `TOP` (R126). -/
theorem Inv.reconnect (inv : Inv s) (hs : s.st ≠ .fault) (m : Byte) {next : St} (hnext : plain next = true) :
    Inv { reconnect m s with st := next } :=
  have recorded : Inv { s with modId := m, lastResult := .moduleId, lastModule := m } := { inv with }
  recorded.regainSync.enter (by simpa using hs) hnext

theorem Inv.raiseFault (inv : Inv s) {code : FaultCode} (hcode : code ≠ .none) : Inv (raiseFault code s) :=
  { inv with
    idxInFrame := by simp
    trailCount := by simp
    faultSticky := by simp
    faultCoded := by simp [hcode] }

theorem Inv.beginAwait (inv : Inv s) (hs : s.st ≠ .fault) : Inv (beginAwait s) :=
  { inv.enter hs (next := .reqWait) rfl with timerBound := cTimeout_le_maxDelay s.cfg }

/-- The builder's write stays a buffer's write (R38). -/
theorem Inv.built (inv : Inv s) (inside : WritesInside i s) : Inv { s with txbuf := builtBuf i s } :=
  { inv with
    txbufFits := by
      unfold builtBuf
      split
      next hwe => exact fits_write inv.txbufFits (inside hwe) _
      next => exact inv.txbufFits }

/-- Storing a byte of a frame (R39, R93, R94). -/
theorem Inv.stored (inv : Inv s) (hs : s.st ≠ .fault) (hroom : s.rxCount < s.cfg.rxCapacity) (b : Byte) {next : St}
    (hnext : plain next = true ∨ next = .rfTrail) :
    Inv { s with rxbuf := s.rxbuf.write s.rxCount b, rxCount := s.rxCount + 1, st := next } :=
  { inv with
    rxbufFits := fits_write inv.rxbufFits hroom b
    idxInFrame := by rintro (rfl | rfl) <;> simp [plain] at hnext
    countBound := hroom
    trailCount := fun _ => Nat.le_add_left 1 _
    faultSticky := by
      have away : next ≠ .fault := by rintro rfl; simp [plain] at hnext
      simp [inv.fault_low hs, away] }

/-- A byte of a frame is sent and its gap begins (R104). -/
theorem Inv.sentByte (inv : Inv s) (hst : s.st = .txByte) {m : Memory} (hm : m.fits s.cfg.txCapacity) (sum : Byte) :
    Inv { s with csum := sum, txbuf := m, timer := s.cfg.cInterbyte, st := .txGap } :=
  { inv with
    txbufFits := hm
    timerBound := cInterbyte_le_maxDelay s.cfg
    idxInFrame := fun _ => inv.idxInFrame (.inl hst)
    trailCount := by simp
    faultSticky := by simp [inv.fault_low (by simp [hst])] }

/-- Every transition keeps the invariant. -/
theorem Move.keepsInv (move : Move i s t) (inv : Inv s) : Inv t := by
  cases move with
  | enterLoop hst => exact { inv.enter (by simp [hst]) (next := .top) rfl with }
  | startFails => exact { inv with }
  | idle | hold | stall | stuck => exact inv
  | receive hst =>
    exact { inv.enter (by simp [hst]) (next := .rfSettle) rfl with timerBound := cRxSettle_le_maxDelay s.cfg }
  | exit hst => exact inv.enter (by simp [hst]) rfl
  | listen hst => exact inv.beginAwait (by simp [hst])
  | tick => exact { inv with timerBound := (Nat.sub_le _ _).trans inv.timerBound }
  | modeByte hst => exact inv.popRx.enter (by simp [hst]) rfl
  | invalid hst => exact inv.popRx.resync (by simp [hst]) .invalid
  | timeout hst => exact inv.resync (by simp [hst]) .timeout
  | moduleByte hst m =>
    refine inv.popRx.reconnect (by simp [hst]) m ?_
    split <;> rfl
  | fault code cause => exact inv.raiseFault (by cases cause <;> nofun)
  | building hst inside => exact inv.built inside
  | built hst inside hdone hlen =>
    exact { (inv.built inside).enter (by simp [hst]) (next := .txSettle) rfl with
      lenBound := hlen
      idxInFrame := by simp
      timerBound := cPostRecv_le_maxDelay s.cfg }
  | settledEmpty hst =>
    exact { inv.enter (by simp [hst]) (next := .txDrain) rfl with
      idxBound := Nat.zero_le _
      idxInFrame := by simp
      drainBound := Nat.zero_le _ }
  | settled hst ht hlen =>
    exact { inv with
      idxBound := Nat.zero_le _
      idxInFrame := fun _ => hlen
      trailCount := by simp
      faultSticky := by simp [inv.fault_low (by simp [hst])] }
  | sendChecksum hst _ _ hidx => exact (inv.txWrite s.csum).sentByte hst (fits_write inv.txbufFits hidx _) s.csum
  | sendByte hst => exact (inv.txWrite (s.txAt s.idx)).sentByte hst inv.txbufFits (s.csum + s.txAt s.idx)
  | sent hst => exact { inv.enter (by simp [hst]) (next := .txDrain) rfl with drainBound := inv.lenBound }
  | nextByte hst ht hlast =>
    have inFrame : s.idx + 1 < s.len := lt_of_le_of_ne (inv.idxInFrame (.inr hst)) hlast
    exact { inv with
      idxBound := (inFrame.trans_le inv.lenBound).le
      idxInFrame := fun _ => inFrame
      trailCount := by simp
      faultSticky := by simp [inv.fault_low (by simp [hst])] }
  | drain => exact { inv with drainBound := (Nat.sub_le _ _).trans inv.drainBound }
  | drained hst => exact inv.enter (by simp [hst]) rfl
  | poll hst =>
    exact { inv.enter (by simp [hst]) (next := .rfPoll) rfl with timerBound := cTimeout_le_maxDelay s.cfg }
  | heard hst =>
    exact { inv.enter (by simp [hst]) (next := .rfScan) rfl with countBound := Nat.zero_le _, trailCount := by simp }
  | pollTimeout hst =>
    exact { inv.enter (by simp [hst]) (next := .stopped) rfl with frameLen := by simp, noFrameLen := fun _ => rfl }
  | store hst b rest hq hroom =>
    refine inv.popRx.stored (by simp [hst]) hroom b ?_
    split <;> simp [plain]
  | frame hst b rest hq hroom =>
    exact { inv.popRx.stored (by simp [hst]) hroom b (next := .stopped) (.inl rfl) with
      frameLen := fun _ => ⟨Nat.succ_le_succ (inv.trailCount hst), hroom⟩
      noFrameLen := by simp }

/-- With the invariant the rule of every state answers (R45): `idx` is an index of `txbuf` in `TX_BYTE`, and `rx_count` one of
`rxbuf` where a byte is stored. -/
theorem Inv.exists_move (inv : Inv s) (i : CycleIn) : ∃ t, Move i s t := by
  suffices ∃ t, cycleRule i s = .ok t from this.imp fun t => cycleRule_move
  have room : s.rxCount ≠ s.cfg.rxCapacity → s.rxCount < s.cfg.rxCapacity := lt_of_le_of_ne inv.countBound
  unfold cycleRule
  cases hst : s.st
  case build =>
    by_cases haddr : i.bldWe = true ∧ s.cfg.txCapacity ≤ bldAddrOf i s
    · exact ⟨_, ruleBuild_addrFault haddr.1 haddr.2⟩
    · by_cases hlen : i.bldDone = true ∧ s.cfg.txCapacity < bldLenOf i s
      · exact ⟨_, ruleBuild_lengthFault haddr hlen.1 hlen.2⟩
      · exact ⟨_, ruleBuild_applied haddr hlen⟩
  case txByte =>
    have hidx : s.idx < s.len := inv.idxInFrame (.inl hst)
    cases hready : i.txReady with
    | false => exact ⟨_, ruleTxByte_stalled hready s⟩
    | true =>
      by_cases hlast : s.idx = s.len - 1
      · exact ⟨_, ruleTxByte_checksum hready hidx inv.lenBound hlast⟩
      · exact ⟨_, ruleTxByte_payload hready hidx inv.lenBound hlast⟩
  case rfScan =>
    cases hq : s.rxQueue with
    | nil => exact ⟨_, ruleRfScan_empty hq⟩
    | cons b rest =>
      by_cases hfull : s.rxCount = s.cfg.rxCapacity
      · exact ⟨_, ruleRfScan_overrun hq hfull⟩
      · exact ⟨_, ruleRfScan_store hq (room hfull)⟩
  case rfTrail =>
    cases hq : s.rxQueue with
    | nil => exact ⟨_, ruleRfTrail_empty hq⟩
    | cons b rest =>
      by_cases hfull : s.rxCount = s.cfg.rxCapacity
      · exact ⟨_, ruleRfTrail_overrun hq hfull⟩
      · exact ⟨_, ruleRfTrail_store hq (room hfull)⟩
  all_goals exact ⟨_, rfl⟩

end

/-! ## Cycles and operations -/

/-- Answers a next state with the invariant. -/
def Safe (r : Except Fault State) : Prop := ∃ t, r = .ok t ∧ Inv t

theorem Safe.ok {s : State} (inv : Inv s) : Safe (.ok s) := ⟨s, rfl, inv⟩

theorem Safe.bind {r : Except Fault State} {f : State → Except Fault State} (hr : Safe r)
    (hf : ∀ u, Inv u → Safe (f u)) : Safe (r.bind f) := by
  obtain ⟨u, rfl, inv⟩ := hr
  exact hf u inv

section
variable {s : State}

theorem Inv.clockOn (inv : Inv s) (i : CycleIn) : Safe (clockOn i s) := by
  cases hrst : i.rst with
  | true => exact clockOn_reset hrst s ▸ .ok (applyReset_inv inv.cfgOk inv.txbufFits inv.rxbufFits)
  | false =>
    obtain ⟨t, move⟩ := (inv.beginCycle i).exists_move i
    exact ⟨t, (clockOn_ok_iff hrst).mpr move, move.keepsInv (inv.beginCycle i)⟩

theorem Inv.clock (inv : Inv s) : Safe (clock s) := inv.clockOn _

theorem Inv.clocks (inv : Inv s) (k : Nat) : Safe (clocks k s) := by
  induction k generalizing s with
  | zero => exact .ok inv
  | succ k ih => exact inv.clock.bind fun _ => ih

theorem Inv.runWhile (inv : Inv s) (busy : St → Bool) (fuel : Nat) : Safe (runWhile busy fuel s) := by
  obtain ⟨k, -, hk⟩ := runWhile_clocks busy fuel s
  exact hk ▸ inv.clocks k

/-- Every instruction answers a next state with the invariant. -/
theorem Inv.exec (inv : Inv s) (i : Instr) : ∃ t, exec i s = .next t ∧ Inv t := by
  suffices h : ∃ r, Machine.exec i s = answer r ∧ Safe r by
    obtain ⟨_, hr, t, rfl, invt⟩ := h
    exact ⟨t, hr, invt⟩
  cases i with
  | scan | finalize => exact ⟨.ok _, rfl, .ok { inv with }⟩
  | await =>
    refine ⟨_, rfl, ?_⟩
    split
    next hst => exact (inv.beginAwait (by simp [hst])).runWhile _ _
    next => exact inv.clock.bind fun _ invu => invu.runWhile _ _
  | recvFrame | transmit | iterate =>
    exact ⟨_, rfl, (inv.clockOn _).bind fun _ invu => invu.runWhile _ _⟩
  | start => exact ⟨_, rfl, inv.clockOn _⟩
  | reqEam | reqGps =>
    refine ⟨_, rfl, ?_⟩
    split
    next hst => exact (inv.reconnect (by simp [hst]) _ (next := .build) rfl).runWhile _ _
    next => exact inv.clock
  | reqUnknown m =>
    refine ⟨_, rfl, ?_⟩
    split
    next hst => exact .ok (inv.reconnect (by simp [hst]) m (next := .top) rfl)
    next => exact inv.clock
  | reqInvalid mode =>
    refine ⟨_, rfl, ?_⟩
    split
    next hst => exact .ok (inv.resync (by simp [hst]) .invalid)
    next => exact inv.clock

/-- Every step answers a next state with the invariant, or refuses a reserved operation word (R45, R66). -/
theorem Inv.step (inv : Inv s) : (∃ t, step s = .next t ∧ Inv t) ∨
    ∃ w, s.opWord = some w ∧ step s = .refused (.reservedOpWord w) := by
  cases hword : s.opWord with
  | none =>
    obtain ⟨k, -, hk⟩ := stepIsClockCycles s inv.cfgOk hword
    obtain ⟨t, ht, invt⟩ := inv.clocks k
    exact .inl ⟨t, by rw [hk, ht]; rfl, invt⟩
  | some w =>
    have cleared : Inv { s with opWord := none } := { inv with }
    cases hi : decodeOp8 w with
    | ok i =>
      rw [(stepRunsDecodedInstruction s inv.cfgOk).1 w i hword hi]
      exact .inl (cleared.exec i)
    | error e => exact .inr ⟨w, rfl, by simp only [Machine.step, inv.cfgOk, if_true, hword, hi]⟩

end

/-- Settles O8: the next state a step answers has the invariant. -/
theorem stepKeepsInvariant : Obligations.StepKeepsInvariant := by
  unfold Obligations.StepKeepsInvariant
  intro s t inv h
  obtain ⟨u, hu, invu⟩ | ⟨w, -, hw⟩ := inv.step
  · rw [h, Host.Outcome.next.injEq] at hu
    exact hu ▸ invu
  · rw [h] at hw
    cases hw

/-- Settles O9: with the invariant the only step that answers no next state is the refusal. -/
theorem noAccessOutsideBuffers : Obligations.NoAccessOutsideBuffers := by
  unfold Obligations.NoAccessOutsideBuffers
  intro s inv
  exact inv.step.imp_left fun ⟨t, ht, _⟩ => ⟨t, ht⟩

end Sys2Proof.Machine
end

section
/-! PROOFS about every step: what a step is made of, whatever instruction it runs, and the rules that hold of each part (R16,
R41, R50, R152, R153); and an instruction presented where it is not invoked (entries 12 and 14). -/

namespace Sys2Proof.Machine

/-! ## The parts of a step -/

/-- What a step does, in parts: clock cycles with the ports of this cycle but for the pulse that invokes an operation, and what
the model does between cycles (entries 9 to 12 and 14). -/
inductive Part (s : State) : State → Prop where
  /-- A clock cycle, its reset and its bytes those of the environment. -/
  | cycle {t : State} (i : CycleIn) (hrst : i.rst = s.thisInput.rst) (h : clockOn i s = .ok t) : Part s t
  /-- The presented word is taken (entry 9). -/
  | takeWord : Part s { s with opWord := none }
  /-- A pure operation writes its list and its result (entry 10). -/
  | pure (args : OpArgs) (result : OpResult) : Part s { s with args := args, result := result }
  /-- AWAIT begins in `TOP` (entry 12). -/
  | await (hst : s.st = .top) : Part s (beginAwait s)
  /-- A decoded ModuleId is acted on (entry 14). -/
  | accept (hst : s.st = .reqId) (m : Byte) (next : St) : Part s { reconnect m s with st := next }
  /-- A decoded mode byte is acted on (entry 14). -/
  | reject (hst : s.st = .reqWait) : Part s (resync .invalid s)

/-- What every part keeps. -/
def KeptByParts (P : State → Prop) : Prop := ∀ s t, P s → Part s t → P t

section
variable {P : State → Prop} {s t : State}

theorem KeptByParts.clock (keep : KeptByParts P) (hs : P s) (h : clock s = .ok t) : P t :=
  keep s t hs (.cycle s.thisInput rfl h)

theorem KeptByParts.runWhile (keep : KeptByParts P) {busy : St → Bool} {fuel : Nat} (hs : P s)
    (h : runWhile busy fuel s = .ok t) : P t :=
  runWhile_keeps (fun _ _ => keep.clock) busy fuel hs h

theorem KeptByParts.clocks (keep : KeptByParts P) {k : Nat} (hs : P s) (h : clocks k s = .ok t) : P t :=
  clocks_keeps (fun _ _ => keep.clock) k hs h

/-- A run that follows a cycle answers only where the cycle does. -/
theorem bind_ok {r : Except Fault State} {f : State → Except Fault State} (h : r.bind f = .ok t) :
    ∃ u, r = .ok u ∧ f u = .ok t := by
  cases r with
  | error e => cases h
  | ok u => exact ⟨u, rfl, h⟩

/-- A cycle of the environment's reset, followed by a run, keeps it. -/
theorem KeptByParts.cycle_run (keep : KeptByParts P) {i : CycleIn} (hrst : i.rst = s.thisInput.rst) {busy : St → Bool}
    {fuel : Nat} (hs : P s) (h : (clockOn i s).bind (Machine.runWhile busy fuel) = .ok t) : P t := by
  obtain ⟨u, hu, hrun⟩ := bind_ok h
  exact keep.runWhile (keep s u hs (.cycle i hrst hu)) hrun

/-- What every part keeps, every instruction keeps. -/
theorem KeptByParts.exec (keep : KeptByParts P) (i : Instr) (hs : P s) (h : exec i s = .next t) : P t := by
  cases i with
  | scan =>
    injection h with h
    exact h ▸ keep s _ hs (.pure s.args _)
  | finalize =>
    injection h with h
    exact h ▸ keep s _ hs (.pure _ _)
  | await =>
    have h := answer_next.mp h
    split at h
    next hst => exact keep.runWhile (keep s _ hs (.await hst)) h
    next => exact keep.cycle_run rfl hs h
  | recvFrame | transmit | iterate => exact keep.cycle_run (by rfl) hs (answer_next.mp h)
  | start => exact keep s t hs (.cycle _ (by rfl) (answer_next.mp h))
  | reqEam | reqGps =>
    have h := answer_next.mp h
    split at h
    next hst => exact keep.runWhile (keep s _ hs (.accept hst _ .build)) h
    next => exact keep.clock hs h
  | reqUnknown m =>
    have h := answer_next.mp h
    split at h
    next hst =>
      injection h with h
      exact h ▸ keep s _ hs (.accept hst m .top)
    next => exact keep.clock hs h
  | reqInvalid mode =>
    have h := answer_next.mp h
    split at h
    next hst =>
      injection h with h
      exact h ▸ keep s _ hs (.reject hst)
    next => exact keep.clock hs h

/-- What every part keeps, every step keeps. -/
theorem KeptByParts.step (keep : KeptByParts P) (hs : P s) (h : step s = .next t) : P t := by
  cases hc : s.cfg.ok with
  | false => simp [Machine.step, hc] at h
  | true =>
    cases hword : s.opWord with
    | none =>
      obtain ⟨k, -, hk⟩ := stepIsClockCycles s hc hword
      exact keep.clocks hs (answer_next.mp (hk ▸ h))
    | some w =>
      cases hi : decodeOp8 w with
      | error e => simp [Machine.step, hc, hword, hi] at h
      | ok i =>
        rw [(stepRunsDecodedInstruction s hc).1 w i hword hi] at h
        exact keep.exec i (keep s _ hs .takeWord) h

end

/-! ## Parameters and the TX stream -/

theorem Part.cfg {s t : State} (part : Part s t) : t.cfg = s.cfg := by
  cases part with
  | cycle i _ h => exact (clockOn_keepsModel h).cfg
  | accept | reject => simp
  | takeWord | pure | await => rfl

/-- Settles O10: no part of a step writes a parameter. -/
theorem parametersAreFixed : Obligations.ParametersAreFixed := by
  unfold Obligations.ParametersAreFixed
  intro s t h
  have keep : KeptByParts fun u => u.cfg = s.cfg := fun u v hu part => part.cfg.trans hu
  exact keep.step rfl h

theorem Part.txStream {s t : State} (part : Part s t) : s.txStream <+: t.txStream := by
  cases part with
  | cycle i _ h => exact clockOn_txStream h
  | accept | reject => simp
  | takeWord | pure | await => exact List.prefix_rfl

/-- Settles O11: every part of a step appends to the stream. -/
theorem transmittedBytesStay : Obligations.TransmittedBytesStay := by
  unfold Obligations.TransmittedBytesStay
  intro s t h
  have keep : KeptByParts fun u => s.txStream <+: u.txStream := fun u v hu part => hu.trans part.txStream
  exact keep.step List.prefix_rfl h

/-! ## No reset -/

theorem allInputs_thisInput {p : CycleIn → Prop} {s : State} (h : allInputs p s) : p s.thisInput := by
  unfold State.thisInput
  cases hs : s.inputs with
  | nil => exact h.1
  | cons i rest => exact h.2 i (by simp [hs])

/-- What holds of all coming inputs holds of those after any number of cycles. -/
theorem allInputs_drop {p : CycleIn → Prop} {s t : State} (h : allInputs p s) {k : Nat} (hheld : t.held = s.held)
    (hinputs : t.inputs = s.inputs.drop k) : allInputs p t :=
  ⟨hheld ▸ h.1, fun i hi => h.2 i (List.mem_of_mem_drop (hinputs ▸ hi))⟩

/-- The next cycle's inputs are among the coming ones. -/
theorem allInputs_clockOn {p : CycleIn → Prop} {i : CycleIn} {s t : State} (h : allInputs p s)
    (hclock : clockOn i s = .ok t) : allInputs p t :=
  allInputs_drop h (k := 1) (clockOn_keepsModel hclock).held (by rw [clockOn_inputs hclock, List.drop_one])

/-! ## `FAULT` -/

/-- Stuck in `FAULT` since `s`: no register, buffer or stream written since, no reset to come (R152). -/
structure StuckSince (s t : State) : Prop where
  st : t.st = .fault
  noReset : NoReset t
  timer : t.timer = s.timer
  events : t.events = s.events
  queue : s.rxQueue <+: t.rxQueue
  flags : KeepsFaultFlags s t
  loop : KeepsLoop s t
  transmit : KeepsTransmit s t
  receive : KeepsReceive s t

/-- The environment's side and the model's own fields play no part in it. -/
theorem StuckSince.environment {s t : State} (stuck : StuckSince s t) {inputs : List CycleIn} {queue : List Byte}
    {outs : CycleOut} {word : Option Byte} {args : OpArgs} {result : OpResult} (hqueue : t.rxQueue <+: queue)
    (noReset : ∀ i ∈ inputs, i.rst = false) :
    StuckSince s { t with
      inputs := inputs, rxQueue := queue, outs := outs, opWord := word, args := args, result := result } where
  st := stuck.st
  noReset := ⟨stuck.noReset.1, noReset⟩
  timer := stuck.timer
  events := stuck.events
  queue := stuck.queue.trans hqueue
  flags := { stuck.flags with }
  loop := { stuck.loop with }
  transmit := { stuck.transmit with }
  receive := { stuck.receive with }

/-- Without reset a cycle of `FAULT` only takes its inputs (R152). -/
theorem clockOn_fault {i : CycleIn} {s : State} (hrst : i.rst = false) (hst : s.st = .fault) :
    clockOn i s = .ok (beginCycle i s) :=
  (clockOn_ok_iff hrst).mpr (.stuck hst)

/-- No part of a step leaves `FAULT` without a reset: the operations do not begin there (R152, R153). -/
theorem stuckSince_kept (s : State) : KeptByParts (StuckSince s) := by
  intro u v stuck part
  have noReset : ∀ i ∈ u.inputs, i.rst = false := stuck.noReset.2
  cases part with
  | cycle i hrst h =>
    have low : i.rst = false := hrst.trans (allInputs_thisInput stuck.noReset)
    rw [clockOn_fault low stuck.st, Except.ok.injEq] at h
    exact h ▸ stuck.environment (List.prefix_append _ _) fun i hi => noReset i (List.mem_of_mem_tail hi)
  | takeWord => exact stuck.environment List.prefix_rfl noReset
  | pure args result => exact stuck.environment List.prefix_rfl noReset
  | await hst => simp [stuck.st] at hst
  | accept hst => simp [stuck.st] at hst
  | reject hst => simp [stuck.st] at hst

/-- Settles O23: a state in `FAULT` is stuck since itself. -/
theorem onlyResetLeavesFault : Obligations.OnlyResetLeavesFault := by
  unfold Obligations.OnlyResetLeavesFault
  intro s t hst noReset h
  have start : StuckSince s s := ⟨hst, noReset, rfl, rfl, List.prefix_rfl, ⟨rfl, rfl, rfl⟩, ⟨rfl, rfl, rfl, rfl⟩,
    ⟨rfl, rfl, rfl, rfl, fun _ => rfl, rfl⟩, ⟨rfl, rfl, rfl, fun _ => rfl⟩⟩
  have stuck : StuckSince s t := (stuckSince_kept s).step start h
  exact ⟨stuck.st, stuck.timer, stuck.events, stuck.queue, by simp [State.running, stuck.st],
    by simp [State.bldReq, stuck.st], stuck.flags, stuck.loop, stuck.transmit, stuck.receive⟩

/-! ## The FSM graph -/

/-- Where a cycle without reset can go from a state, besides staying in it (R18). -/
def successors : St → List St
  | .stopped => [.top, .rfSettle]
  | .top => [.stopped, .reqWait]
  | .reqWait => [.reqId, .top]
  | .reqId => [.build, .top]
  | .build => [.txSettle, .fault]
  | .txSettle => [.txByte, .txDrain]
  | .txByte => [.txGap]
  | .txGap => [.txByte, .txDrain]
  | .txDrain => [.top]
  | .rfSettle => [.rfPoll]
  | .rfPoll => [.rfScan, .stopped]
  | .rfScan => [.rfTrail, .fault]
  | .rfTrail => [.stopped, .fault]
  | .fault => []

section
variable {i : CycleIn} {s t : State}

theorem Move.next_st (move : Move i s t) : t.st = s.st ∨ t.st ∈ successors s.st := by
  cases move with
  | startFails | idle | tick | hold | building | stall | drain | stuck => exact .inl rfl
  | fault code cause => obtain h | h | h := cause.raisedIn <;> simp [h, successors]
  | moduleByte hst m => cases hm : s.cfg.supports m <;> simp [hst, successors]
  | store hst b => by_cases hb : b = s.cfg.terminator <;> simp [hst, successors, hb]
  | enterLoop hst | receive hst | exit hst | listen hst | modeByte hst | invalid hst | timeout hst | built hst
  | settledEmpty hst | settled hst | sendChecksum hst | sendByte hst | sent hst | nextByte hst | drained hst
  | poll hst | heard hst | pollTimeout hst | frame hst => simp [hst, successors]

/-- A set of states, without `STOPPED`, that cycles enter from one state outside it. -/
structure EnteredFrom (busy : St → Bool) (entry : St) : Prop where
  stopped : busy .stopped = false
  graph : ∀ a, (successors a).any busy = true → busy a = true ∨ a = entry

/-- Outside both, a cycle does not enter the set. -/
theorem EnteredFrom.clockOn {busy : St → Bool} {entry : St} (h : EnteredFrom busy entry) (hentry : s.st ≠ entry)
    (hidle : busy s.st = false) (hclock : clockOn i s = .ok t) : busy t.st = false := by
  obtain ⟨-, rfl⟩ | ⟨-, move⟩ := clockOn_move hclock
  · exact h.stopped
  · refine Bool.eq_false_iff.mpr fun hbusy => ?_
    obtain hst | hst := move.next_st
    · rw [hst] at hbusy
      exact absurd (hbusy.symm.trans hidle) Bool.noConfusion
    · obtain hfrom | hfrom := h.graph s.st (List.any_eq_true.mpr ⟨t.st, hst, hbusy⟩)
      · exact absurd (hfrom.symm.trans hidle) Bool.noConfusion
      · exact hentry hfrom

/-- So an operation that runs in the set is one cycle there. -/
theorem EnteredFrom.one_cycle {busy : St → Bool} {entry : St} (h : EnteredFrom busy entry) (hentry : s.st ≠ entry)
    (hidle : busy s.st = false) (i : CycleIn) (fuel : Nat) :
    (Machine.clockOn i s).bind (runWhile busy fuel) = Machine.clockOn i s := by
  cases hclock : Machine.clockOn i s with
  | error e => rfl
  | ok t => exact runWhile_idle (h.clockOn hentry hidle hclock) fuel

theorem await_enteredFrom : EnteredFrom isAwait .top :=
  ⟨rfl, fun a => by cases a <;> decide⟩

theorem recv_enteredFrom : EnteredFrom isRecv .stopped :=
  ⟨rfl, fun a => by cases a <;> decide⟩

theorem transmit_enteredFrom : EnteredFrom isTransmit .build :=
  ⟨rfl, fun a => by cases a <;> decide⟩

theorem iteration_enteredFrom : EnteredFrom inIteration .top :=
  ⟨rfl, fun a => by cases a <;> decide⟩

/-! ## Where an instruction is not invoked -/

/-- `recv_cmd` is read in `STOPPED` alone (R90). -/
theorem clockOn_recvCmd_unread (hst : s.st ≠ .stopped) (i : CycleIn) (pulse : Bool) :
    clockOn { i with recvCmd := pulse } s = clockOn i s := by
  unfold clockOn
  exact if_congr Iff.rfl rfl (cycleRule_congr (s := beginCycle i s) (fun h => absurd h hst) (fun _ => rfl)
    (fun _ => ⟨rfl, rfl, fun _ => rfl, fun _ => ⟨rfl, rfl⟩⟩) (fun _ => rfl))

/-- `bld_done` and `bld_len` are read in `BUILD` alone (R35). -/
theorem clockOn_bldDone_unread (hst : s.st ≠ .build) (i : CycleIn) (pulse : Bool) (n : Nat) :
    clockOn { i with bldDone := pulse, bldLen := n } s = clockOn i s := by
  unfold clockOn
  exact if_congr Iff.rfl rfl (cycleRule_congr (s := beginCycle i s) (fun _ => ⟨rfl, rfl, fun _ => rfl⟩) (fun _ => rfl)
    (fun h => absurd h hst) (fun _ => rfl))

/-- Settles O58: outside an operation's states and the one that invokes it, its cycle is the state's own and its run stops. -/
theorem ignoredWhereNotInvoked : Obligations.IgnoredWhereNotInvoked := by
  unfold Obligations.IgnoredWhereNotInvoked
  intro s
  refine ⟨fun hst hidle => ?await, fun hst hidle => ?recvFrame, fun hst hidle => ?transmit, fun hst hidle => ?iterate,
    fun hst => ?start, fun hst => ?request, fun hst b => ?invalid⟩
  case await =>
    have ignored : execAwait s = answer ((clock s).bind (runWhile isAwait (operationFuel s))) := by
      unfold execAwait
      split
      next h => exact absurd h hst
      next => rfl
    exact ignored.trans (congrArg answer (await_enteredFrom.one_cycle hst hidle _ _))
  case recvFrame =>
    refine congrArg answer ((recv_enteredFrom.one_cycle hst hidle _ _).trans ?_)
    exact clockOn_recvCmd_unread hst _ true
  case transmit =>
    refine congrArg answer ((transmit_enteredFrom.one_cycle hst hidle _ _).trans ?_)
    exact clockOn_bldDone_unread hst _ true _
  case iterate => exact congrArg answer (iteration_enteredFrom.one_cycle hst hidle _ _)
  case start => exact congrArg answer (clockOn_start_unread hst _ true)
  case request =>
    exact ⟨congrArg answer (if_neg hst), congrArg answer (if_neg hst), fun m => congrArg answer (if_neg hst)⟩
  case invalid => exact congrArg answer (if_neg hst)

end

end Sys2Proof.Machine
end

section
/-! PROOFS about how long an operation runs (R163, R165, entry 13): a count of the cycles that are left, which every cycle but
one of an unbounded wait brings down; so an operation ends, or stands in such a wait. -/

namespace Sys2Proof.Machine

/-! ## The cycles that are left -/

/-- The states of the operations of many cycles. -/
def active (st : St) : Bool := inIteration st || isRecv st

/-- The cycles of `k` bytes of a frame, each with its gap (R107). -/
def byteCycles (c : Config) (k : Nat) : Nat := k * (c.cInterbyte + 2)

/-- How many more cycles an operation can take in which it does not wait for an input without limit (R107, R163, R183). -/
def cyclesLeft (s : State) : Nat :=
  match s.st with
  | .stopped | .top | .fault => 0
  | .reqWait => s.timer + s.cfg.cPostRecv + byteCycles s.cfg s.cfg.txCapacity + s.cfg.txCapacity + 6
  | .reqId => s.cfg.cPostRecv + byteCycles s.cfg s.cfg.txCapacity + s.cfg.txCapacity + 5
  | .build => s.cfg.cPostRecv + byteCycles s.cfg s.cfg.txCapacity + s.cfg.txCapacity + 4
  | .txSettle => s.timer + byteCycles s.cfg s.cfg.txCapacity + s.len + 3
  | .txByte => byteCycles s.cfg (s.cfg.txCapacity - s.idx) + s.len + 2
  | .txGap => s.timer + byteCycles s.cfg (s.cfg.txCapacity - (s.idx + 1)) + s.len + 3
  | .txDrain => s.drainRem + 1
  | .rfSettle => s.timer + s.cfg.cTimeout + s.cfg.rxCapacity + 4
  | .rfPoll => s.timer + s.cfg.rxCapacity + 3
  | .rfScan => s.cfg.rxCapacity - s.rxCount + 2
  | .rfTrail => 1

theorem cyclesLeft_pos {s : State} (h : active s.st = true) : 0 < cyclesLeft s := by
  unfold cyclesLeft
  cases hst : s.st <;> simp [hst, active, inIteration, isAwait, isServing, isTransmit, isRecv] at h ⊢

/-- A cycle that waits without limit for a missing input, and raises no fault (R163). -/
structure WaitsIn (i : CycleIn) (s : State) : Prop where
  low : i.rst = false
  missing : waitingIn i s = true
  inside : s.st = .build → WritesInside i s

section
variable {i : CycleIn} {s t : State}

/-- What `waitingIn` says of the states that wait for a byte. -/
theorem waitingIn_of_awaitsByte (hst : awaitsByte s.st = true) (hq : s.rxQueue ++ i.rx = []) : waitingIn i s = true := by
  obtain h | h | h := (awaitsByte_iff s.st).mp hst <;> simp [waitingIn, h, hq]

/-- The byte count goes down by one byte's cycles. -/
theorem byteCycles_sub (c : Config) {k n : Nat} (h : k < n) :
    byteCycles c (n - k) = byteCycles c (n - (k + 1)) + (c.cInterbyte + 2) := by
  rw [byteCycles, byteCycles, ← Nat.succ_mul]
  congr 1
  omega

/-- A transition that does not wait brings the cycles that are left down. -/
theorem Move.cyclesLeft_lt (move : Move i s t) (hactive : active s.st = true)
    (hbyte : ¬(awaitsByte s.st = true ∧ s.rxQueue = [])) (hready : s.st = .txByte → i.txReady = true)
    (hbuild : s.st = .build → i.bldDone = true ∨ t.st = .fault) : cyclesLeft t < cyclesLeft s := by
  have pos : 0 < cyclesLeft s := cyclesLeft_pos hactive
  cases move with
  | enterLoop hst | startFails hst | receive hst | idle hst | exit hst | listen hst | stuck hst =>
    rw [hst] at hactive
    cases hactive
  | hold hst hq => exact absurd ⟨hst, hq⟩ hbyte
  | stall hst hlow => simp [hready hst] at hlow
  | building hst _ hdone => simp [hst, hdone] at hbuild
  | fault | invalid | timeout | drained => simpa [cyclesLeft] using pos
  | pollTimeout | frame => exact pos
  | tick hst _ ht =>
    obtain h | h | h | h | h := (countsDown_iff s.st).mp hst <;> simp only [cyclesLeft, h] <;> omega
  | moduleByte hst m =>
    cases hm : s.cfg.supports m <;> simp [cyclesLeft, hst]
  | sendChecksum hst _ _ hidx | sendByte hst _ _ hidx =>
    have bytes := byteCycles_sub s.cfg hidx
    simp only [cyclesLeft, hst, txWrite_cfg, txWrite_idx, txWrite_len]
    omega
  | store hst b rest hq hroom =>
    by_cases hb : b = s.cfg.terminator <;> simp only [cyclesLeft, hst, hb, if_true, if_false, popRx_cfg] <;> omega
  | built hst _ _ hlen =>
    simp only [cyclesLeft, hst, beginTransmit_st, beginTransmit_timer, beginTransmit_cfg, beginTransmit_len]
    omega
  | drain hst hrem =>
    simp only [cyclesLeft, hst, popRx_st]
    omega
  | modeByte hst | settledEmpty hst | settled hst | sent hst | nextByte hst | poll hst | heard hst =>
    simp only [cyclesLeft, hst, popRx_cfg, Nat.sub_zero]
    omega

/-- A cycle of an operation's state waits, or brings the cycles that are left down (R163, R165). -/
theorem clockOn_progress (hactive : active s.st = true) (h : clockOn i s = .ok t) :
    WaitsIn i s ∨ cyclesLeft t < cyclesLeft s := by
  obtain ⟨-, rfl⟩ | ⟨low, move⟩ := clockOn_move h
  · exact .inr (cyclesLeft_pos hactive)
  · by_cases hbyte : awaitsByte s.st = true ∧ s.rxQueue ++ i.rx = []
    · exact .inl ⟨low, waitingIn_of_awaitsByte hbyte.1 hbyte.2, fun h => by simp [h, awaitsByte] at hbyte⟩
    · by_cases hready : s.st = .txByte → i.txReady = true
      · by_cases hbuild : s.st = .build → i.bldDone = true ∨ t.st = .fault
        · exact .inr (move.cyclesLeft_lt (s := beginCycle i s) hactive hbyte hready hbuild)
        · obtain ⟨hst, hgoes⟩ := Classical.not_imp.mp hbuild
          obtain ⟨hdone, hfault⟩ := not_or.mp hgoes
          refine .inl ⟨low, by simp [waitingIn, hst, hdone], fun _ hwe => not_le.mp fun haddr => hfault ?_⟩
          have cause : FaultCause i (beginCycle i s) .buildAddr := .buildAddr hst hwe haddr
          rw [clockOn_of_faultCause low cause h, raiseFault_st]
      · obtain ⟨hst, hlow⟩ := Classical.not_imp.mp hready
        exact .inl ⟨low, by simp [waitingIn, hst, hlow], fun h => by simp [hst] at h⟩

/-- A waiting cycle changes `txbuf` at most, for the builder (R163). -/
theorem WaitsIn.clockOn (waits : WaitsIn i s) :
    ∃ m, Machine.clockOn i s = .ok { beginCycle i s with txbuf := m } := by
  simp only [clockOn_ok_iff waits.low]
  have missing := waits.missing
  unfold waitingIn at missing
  split at missing
  next hst => exact ⟨s.txbuf, .hold (by simp [hst, awaitsByte]) (by simpa using missing)⟩
  next hst => exact ⟨s.txbuf, .hold (by simp [hst, awaitsByte]) (by simpa using missing)⟩
  next hst => exact ⟨s.txbuf, .hold (by simp [hst, awaitsByte]) (by simpa using missing)⟩
  next hst => exact ⟨_, .building hst (waits.inside hst) (by simpa using missing)⟩
  next hst => exact ⟨s.txbuf, .stall hst (by simpa using missing)⟩
  next => cases missing

/-- With the same ports the wait goes on. -/
theorem WaitsIn.again (waits : WaitsIn i s) (h : Machine.clockOn i s = .ok t) : t.st = s.st ∧ WaitsIn i t := by
  obtain ⟨m, hm⟩ := waits.clockOn
  rw [h, Except.ok.injEq] at hm
  have missing : waitingIn i t = true := by
    have before := waits.missing
    rw [hm]
    unfold waitingIn at before ⊢
    cases hst : s.st <;> simp_all
  rw [hm] at missing ⊢
  exact ⟨rfl, waits.low, missing, waits.inside⟩

/-! ## A bounded run ends, or waits -/

/-- Enough cycles for a run: as many as inputs are listed and cycles left; or any number, where the run stands in a wait whose
input does not come. -/
def Enough (fuel : Nat) (s : State) : Prop :=
  s.inputs.length + cyclesLeft s ≤ fuel ∨ (s.inputs = [] ∧ WaitsIn s.held s)

theorem thisInput_of_nil (h : s.inputs = []) : s.thisInput = s.held := by simp [State.thisInput, h]

/-- A state that waits for an input that does not come is in the same wait after a cycle. -/
theorem WaitsIn.clock (waits : WaitsIn s.held s) (hnil : s.inputs = []) (h : clock s = .ok t) :
    t.st = s.st ∧ t.inputs = [] ∧ WaitsIn t.held t := by
  rw [Machine.clock, thisInput_of_nil hnil] at h
  have held : t.held = s.held := (clockOn_keepsModel h).held
  obtain ⟨hst, again⟩ := waits.again h
  exact ⟨hst, by rw [clockOn_inputs h, hnil]; rfl, held.symm ▸ again⟩

/-- After a cycle of an operation's state one cycle less is enough. -/
theorem Enough.clock {fuel : Nat} (enough : Enough (fuel + 1) s) (hactive : active s.st = true) (h : clock s = .ok t) :
    Enough fuel t := by
  have length : t.inputs.length = s.inputs.length - 1 := by rw [clockOn_inputs h, List.length_tail]
  obtain left | ⟨hnil, waits⟩ := enough
  · obtain waits | less := clockOn_progress hactive h
    · by_cases hnil : s.inputs = []
      · rw [thisInput_of_nil hnil] at waits
        exact .inr (waits.clock hnil h).2
      · have listed : 0 < s.inputs.length := List.length_pos_of_ne_nil hnil
        have same : cyclesLeft t = cyclesLeft s := by
          obtain ⟨m, hm⟩ := waits.clockOn
          rw [Machine.clock, hm, Except.ok.injEq] at h
          rw [← h]
          rfl
        exact .inl (by omega)
    · exact .inl (by omega)
  · exact .inr (waits.clock hnil h).2

/-- A run with enough cycles that has not left its states waits for an input that does not come (R163, R165). -/
theorem runWhile_ends_or_waits {busy : St → Bool} (hbusy : ∀ st, busy st = true → active st = true) {fuel : Nat}
    (enough : Enough fuel s) (h : runWhile busy fuel s = .ok t) (hend : busy t.st = true) :
    t.inputs = [] ∧ WaitsIn t.held t := by
  induction fuel generalizing s with
  | zero =>
    injection h with h
    subst h
    have pos : 0 < cyclesLeft s := cyclesLeft_pos (hbusy _ hend)
    exact enough.resolve_left (by omega)
  | succ fuel ih =>
    by_cases hs : busy s.st = true
    · rw [runWhile_busy hs] at h
      obtain ⟨u, hu, hrun⟩ := bind_ok h
      exact ih (enough.clock (hbusy _ hs) hu) hrun
    · rw [runWhile_idle (by simpa using hs)] at h
      injection h with h
      exact absurd (h ▸ hend) hs

end

/-! ## Runs whose cycles are known -/

/-- `k` cycles from `s` to `t`, each begun in the given states. -/
inductive Run (busy : St → Bool) : Nat → State → State → Prop where
  | refl (s : State) : Run busy 0 s s
  | step {k : Nat} {s u t : State} (hbusy : busy s.st = true) (hclock : clock s = .ok u) (rest : Run busy k u t) :
      Run busy (k + 1) s t

section
variable {busy : St → Bool} {j k : Nat} {s t u : State}

theorem Run.one (hbusy : busy s.st = true) (hclock : clock s = .ok t) : Run busy 1 s t := .step hbusy hclock (.refl t)

theorem Run.trans (first : Run busy j s u) (rest : Run busy k u t) : Run busy (j + k) s t := by
  induction first with
  | refl => simpa using rest
  | step hbusy hclock _ ih => exact Nat.succ_add _ k ▸ .step hbusy hclock (ih rest)

theorem Run.mono {busy' : St → Bool} (h : ∀ st, busy st = true → busy' st = true) (run : Run busy k s t) :
    Run busy' k s t := by
  induction run with
  | refl s => exact .refl s
  | step hbusy hclock _ ih => exact .step (h _ hbusy) hclock ih

theorem Run.clocks (run : Run busy k s t) : clocks k s = .ok t := by
  induction run with
  | refl => rfl
  | step _ hclock _ ih => rw [clocks_succ_of_clock hclock, ih]

/-- A bounded run goes through the cycles known and then on. -/
theorem Run.runWhile (run : Run busy k s t) (fuel : Nat) :
    Machine.runWhile busy (k + fuel) s = Machine.runWhile busy fuel t := by
  induction run with
  | refl => rw [Nat.zero_add]
  | step hbusy hclock _ ih =>
    rw [Nat.succ_add, runWhile_busy hbusy, hclock]
    exact ih

/-- A wait for an input that does not come is not left. -/
theorem Run.waits (run : Run busy k s t) (hnil : s.inputs = []) (waits : WaitsIn s.held s) : t.st = s.st := by
  induction run with
  | refl => rfl
  | step _ hclock _ ih =>
    obtain ⟨hst, hnil, waits⟩ := waits.clock hnil hclock
    exact (ih hnil waits).trans hst

/-- A run that has left its states took no more cycles than were enough. -/
theorem Run.le_of_end (hactive : ∀ st, busy st = true → active st = true) {fuel : Nat} (run : Run busy k s t)
    (enough : Enough fuel s) (hend : busy t.st = false) : k ≤ fuel := by
  induction run generalizing fuel with
  | refl => exact Nat.zero_le fuel
  | step hbusy hclock rest ih =>
    cases fuel with
    | zero =>
      obtain ⟨hnil, waits⟩ := enough.resolve_left (by have := cyclesLeft_pos (hactive _ hbusy); omega)
      have stays := (Run.step hbusy hclock rest).waits hnil waits
      rw [stays] at hend
      exact absurd (hbusy.symm.trans hend) Bool.noConfusion
    | succ fuel => exact Nat.succ_le_succ (ih (enough.clock (hactive _ hbusy) hclock) hend)

/-- With enough cycles a bounded run ends where the known one does. -/
theorem Run.runWhile_eq (hactive : ∀ st, busy st = true → active st = true) {fuel : Nat} (run : Run busy k s t)
    (enough : Enough fuel s) (hend : busy t.st = false) : Machine.runWhile busy fuel s = .ok t := by
  obtain ⟨d, rfl⟩ := Nat.exists_eq_add_of_le (run.le_of_end hactive enough hend)
  rw [run.runWhile, runWhile_idle hend]

end

/-! ## Operations -/

theorem active_of_isAwait (st : St) (h : isAwait st = true) : active st = true := by simp [active, inIteration, h]

theorem active_of_isRecv (st : St) (h : isRecv st = true) : active st = true := by simp [active, h]

theorem active_of_inIteration (st : St) (h : inIteration st = true) : active st = true := by simp [active, h]

theorem active_of_isServing (st : St) (h : isServing st = true) : active st = true := by simp [active, inIteration, h]

theorem active_of_isTransmit (st : St) (h : isTransmit st = true) : active st = true :=
  active_of_isServing st (by simp [isServing, h])

section
variable {s t u : State}

/-- The bound of an operation covers the cycles left where the counters are within theirs. -/
theorem cyclesLeft_le_operationBound (htimer : s.timer ≤ s.cfg.maxDelay)
    (hlen : isTransmit s.st = true → s.len ≤ s.cfg.txCapacity) (hdrain : s.st = .txDrain → s.drainRem ≤ s.cfg.txCapacity) :
    cyclesLeft s ≤ operationBound s.cfg := by
  have bytes : ∀ k, k ≤ s.cfg.txCapacity →
      byteCycles s.cfg k ≤ (s.cfg.txCapacity + 1) * (s.cfg.cInterbyte + 2) := fun k hk =>
    Nat.mul_le_mul_right _ (by omega)
  have whole := bytes s.cfg.txCapacity le_rfl
  have from_idx := bytes (s.cfg.txCapacity - s.idx) (Nat.sub_le _ _)
  have after_idx := bytes (s.cfg.txCapacity - (s.idx + 1)) (Nat.sub_le _ _)
  unfold operationBound cyclesLeft
  cases hst : s.st <;> simp only [hst, isTransmit, reduceCtorEq, false_implies, true_implies] at hlen hdrain ⊢ <;> omega

/-- The fuel of an operation is enough for a state it starts its run in: with its parameters and no more listed inputs. -/
theorem enough_operationFuel (hcfg : u.cfg = s.cfg) (hinputs : u.inputs.length ≤ s.inputs.length)
    (hu : cyclesLeft u ≤ operationBound u.cfg) : Enough (operationFuel s) u :=
  .inl (by rw [operationFuel, ← hcfg]; omega)

theorem Inv.enough (inv : Inv u) (hcfg : u.cfg = s.cfg) (hinputs : u.inputs.length ≤ s.inputs.length) :
    Enough (operationFuel s) u :=
  enough_operationFuel hcfg hinputs (cyclesLeft_le_operationBound inv.timerBound (fun _ => inv.lenBound) fun _ => inv.drainBound)

/-- What a run under an operation's fuel answers, from a state with the invariant. -/
theorem Inv.runWhile_ends_or_waits (inv : Inv u) (hcfg : u.cfg = s.cfg) (hinputs : u.inputs.length ≤ s.inputs.length)
    {busy : St → Bool} (hbusy : ∀ st, busy st = true → active st = true)
    (h : Machine.runWhile busy (operationFuel s) u = .ok t) (hend : busy t.st = true) :
    t.inputs = [] ∧ waitingIn t.held t = true :=
  (Machine.runWhile_ends_or_waits hbusy (inv.enough hcfg hinputs) h hend).imp_right WaitsIn.missing

/-- The same of a run after one cycle. -/
theorem Inv.cycle_ends_or_waits (inv : Inv s) {i : CycleIn} {busy : St → Bool}
    (hbusy : ∀ st, busy st = true → active st = true)
    (h : (Machine.clockOn i s).bind (Machine.runWhile busy (operationFuel s)) = .ok t) (hend : busy t.st = true) :
    t.inputs = [] ∧ waitingIn t.held t = true := by
  obtain ⟨v, hv, hrun⟩ := bind_ok h
  obtain ⟨u, hu, invu⟩ := inv.clockOn i
  obtain rfl : u = v := Except.ok.inj (hu.symm.trans hv)
  refine invu.runWhile_ends_or_waits (clockOn_keepsModel hv).cfg ?_ hbusy hrun hend
  rw [clockOn_inputs hv, List.length_tail]
  exact Nat.sub_le _ _

end

/-- Settles O59: the fuel of each operation is enough for the run it begins. -/
theorem operationsEndOrWait : Obligations.OperationsEndOrWait := by
  unfold Obligations.OperationsEndOrWait
  intro s t inv
  have served : ∀ m, s.st = .reqId → serve { reconnect m s with st := .build } = .ok t → isServing t.st = true →
      t.inputs = [] ∧ waitingIn t.held t = true := fun m hst h =>
    (inv.reconnect (by simp [hst]) m (next := .build) rfl).runWhile_ends_or_waits rfl le_rfl active_of_isServing h
  refine ⟨fun h hend => ?await, fun h => ?recvFrame, fun h => ?transmit, fun h => ?iterate, fun h hst => ?eam,
    fun h hst => ?gps⟩
  case await =>
    have h := answer_next.mp h
    split at h
    next hst =>
      exact (inv.beginAwait (by simp [hst])).runWhile_ends_or_waits rfl le_rfl active_of_isAwait h hend
    next => exact inv.cycle_ends_or_waits active_of_isAwait h hend
  case recvFrame => exact inv.cycle_ends_or_waits active_of_isRecv (answer_next.mp h)
  case transmit => exact inv.cycle_ends_or_waits active_of_isTransmit (answer_next.mp h)
  case iterate => exact inv.cycle_ends_or_waits active_of_inIteration (answer_next.mp h)
  case eam =>
    have h := answer_next.mp h
    rw [if_pos hst] at h
    exact served s.cfg.eamId hst h
  case gps =>
    have h := answer_next.mp h
    rw [if_pos hst] at h
    exact served s.cfg.gpsId hst h

end Sys2Proof.Machine
end

section
/-! PROOFS of AWAIT (R80 to R86, R123 to R126) and of an iteration on a silent line (R132, R186): runs of cycles through the
timed waits, with the state they end in written out. -/

namespace Sys2Proof.Machine

/-- `s` with its timer and the environment's side at other values: all that the cycles of a wait change. -/
@[simps] def State.waited (s : State) (timer : Nat) (inputs : List CycleIn) (queue : List Byte) (outs : CycleOut) : State :=
  { s with timer := timer, inputs := inputs, rxQueue := queue, outs := outs }

/-! ## Frames -/

section
variable {s u t : State}

theorem KeepsFaultFlags.trans (h : KeepsFaultFlags s u) (h' : KeepsFaultFlags u t) : KeepsFaultFlags s t :=
  ⟨h'.fault.trans h.fault, h'.faultCode.trans h.faultCode, h'.startFailed.trans h.startFailed⟩

theorem KeepsLoop.trans (h : KeepsLoop s u) (h' : KeepsLoop u t) : KeepsLoop s t :=
  ⟨h'.sync.trans h.sync, h'.lastResult.trans h.lastResult, h'.lastModule.trans h.lastModule, h'.modId.trans h.modId⟩

theorem KeepsTransmit.trans (h : KeepsTransmit s u) (h' : KeepsTransmit u t) : KeepsTransmit s t :=
  ⟨h'.idx.trans h.idx, h'.len.trans h.len, h'.csum.trans h.csum, h'.drainRem.trans h.drainRem,
    fun a => (h'.txAt a).trans (h.txAt a), h'.txStream.trans h.txStream⟩

theorem KeepsReceive.trans (h : KeepsReceive s u) (h' : KeepsReceive u t) : KeepsReceive s t :=
  ⟨h'.rxCount.trans h.rxCount, h'.rfStatus.trans h.rfStatus, h'.rfLen.trans h.rfLen,
    fun a => (h'.rxAt a).trans (h.rxAt a)⟩

theorem KeepsModel.trans (h : KeepsModel s u) (h' : KeepsModel u t) : KeepsModel s t :=
  ⟨h'.cfg.trans h.cfg, h'.echo.trans h.echo, h'.held.trans h.held, h'.args.trans h.args, h'.result.trans h.result,
    h'.opWord.trans h.opWord⟩

end

/-! ## What is heard after some cycles -/

section
variable {s t : State} {k : Nat}

/-- After `k` cycles that took the bytes `popped`, the line goes on behind them. -/
theorem heardBy_after {popped : List Byte} (hq : heardBy k s = popped ++ t.rxQueue) (hi : t.inputs = s.inputs.drop k)
    (hh : t.held = s.held) (n : Nat) : heardBy (k + n) s = popped ++ heardBy n t := by
  calc heardBy (k + n) s = heardBy k s ++ lineBytes n t := by
        rw [heardBy, heardBy, lineBytes, lineBytes, portValues_add, List.flatMap_append, List.append_assoc, lineBytes,
          hi, hh]
    _ = popped ++ heardBy n t := by rw [hq, heardBy, List.append_assoc]

/-- What is heard by the first cycle is the RX queue seen in it. -/
theorem heardBy_one (s : State) : heardBy 1 s = s.rxQueue ++ s.thisInput.rx := by
  simp [heardBy, lineBytes, portValues_succ, State.thisInput]

theorem NoReset.thisInput (noReset : NoReset s) : s.thisInput.rst = false := allInputs_thisInput noReset

/-- Without reset a cycle is the transition of the begun state. -/
theorem clock_of_move (noReset : NoReset s) (move : Move s.thisInput (beginCycle s.thisInput s) t) : clock s = .ok t :=
  (clockOn_ok_iff noReset.thisInput).mpr move

/-! ## The waits -/

variable {busy : St → Bool}

/-- `k` cycles of a timed wait that is not over, no byte being there where one would end it (R156). -/
theorem run_ticks (hst : countsDown s.st = true) (hbusy : busy s.st = true) (noReset : NoReset s) (hk : k ≤ s.timer)
    (silent : listens s.st = true → k = 0 ∨ heardBy k s = []) :
    ∃ o, Run busy k s (s.waited (s.timer - k) (s.inputs.drop k) (heardBy k s) o) := by
  induction k generalizing s with
  | zero =>
    rw [heardBy_zero]
    exact ⟨s.outs, .refl s⟩
  | succ k ih =>
    have quiet : listens s.st = true → heardBy (k + 1) s = [] := fun h => (silent h).resolve_left (Nat.succ_ne_zero k)
    obtain ⟨u, hu⟩ : ∃ u, u = { beginCycle s.thisInput s with timer := s.timer - 1 } := ⟨_, rfl⟩
    have hclock : clock s = .ok u := hu ▸ clock_of_move noReset (.tick hst
      (fun h => (heardBy_one s).symm.trans (heardBy_empty (Nat.le_add_left 1 k) (quiet h))) (Nat.zero_lt_of_lt hk))
    have same : u.st = s.st := by rw [hu]; rfl
    have later : heardBy k u = heardBy (k + 1) s := heardBy_succ (by rw [hu]; rfl) (by rw [hu]; rfl) (by rw [hu]; rfl) k
    have counted : u.timer - k = s.timer - (k + 1) := by rw [hu, Nat.add_comm, ← Nat.sub_sub]
    have taken : u.inputs.drop k = s.inputs.drop (k + 1) := by rw [hu, ← List.drop_tail]; rfl
    obtain ⟨o, run⟩ := ih (s := u) (same ▸ hst) (same ▸ hbusy) (allInputs_clockOn noReset hclock)
      (hu ▸ Nat.le_sub_one_of_lt hk) (fun h => .inr (later.trans (quiet (same ▸ h))))
    rw [later, counted, taken] at run
    exact ⟨o, .step hbusy hclock (hu ▸ run)⟩

/-- `k` cycles of a wait for a byte that is not there (R163). -/
theorem run_holds (hst : awaitsByte s.st = true) (hbusy : busy s.st = true) (noReset : NoReset s)
    (silent : heardBy k s = []) :
    ∃ o, Run busy k s (s.waited s.timer (s.inputs.drop k) [] o) := by
  have empty : s.rxQueue = [] := by simpa using heardBy_empty (Nat.zero_le k) silent
  induction k generalizing s with
  | zero => exact ⟨s.outs, by rw [← empty]; exact Run.refl s⟩
  | succ k ih =>
    have queue : s.rxQueue ++ s.thisInput.rx = [] :=
      (heardBy_one s).symm.trans (heardBy_empty (Nat.le_add_left 1 k) silent)
    have hclock : clock s = .ok (beginCycle s.thisInput s) := clock_of_move noReset (.hold hst queue)
    have later : heardBy k (beginCycle s.thisInput s) = heardBy (k + 1) s :=
      heardBy_succ (by rfl) (by rfl) (by rfl) k
    have taken : s.inputs.tail.drop k = s.inputs.drop (k + 1) := List.drop_tail ..
    obtain ⟨o, run⟩ := ih (s := beginCycle s.thisInput s) hst hbusy (allInputs_clockOn noReset hclock)
      (later.trans silent) queue
    rw [beginCycle_inputs, taken] at run
    exact ⟨o, .step hbusy hclock run⟩

/-- The cycle after a wait: its transition is one of the waiting state with the next cycle's bytes there. -/
theorem clock_waited (noReset : NoReset s) (timer k : Nat) (o : CycleOut) : ∃ i o', ∀ t,
    Move i (s.waited timer (s.inputs.drop (k + 1)) (heardBy (k + 1) s) o') t →
      clock (s.waited timer (s.inputs.drop k) (heardBy k s) o) = .ok t := by
  obtain ⟨u, hu⟩ : ∃ u, u = s.waited timer (s.inputs.drop k) (heardBy k s) o := ⟨_, rfl⟩
  have queue : heardBy (k + 1) s = u.rxQueue ++ u.thisInput.rx := by
    rw [← heardBy_one, heardBy_after (t := u) (popped := []) (by rw [hu]; rfl) (by rw [hu]; rfl) (by rw [hu]; rfl)]
    rfl
  have taken : s.inputs.drop (k + 1) = u.inputs.tail := by rw [hu, State.waited_inputs, List.tail_drop]
  have noReset : NoReset u := allInputs_drop noReset (k := k) (by rw [hu]; rfl) (by rw [hu]; rfl)
  refine ⟨u.thisInput, (beginCycle u.thisInput u).outs, fun t move => ?_⟩
  rw [queue, taken] at move
  rw [← hu]
  refine clock_of_move noReset ?_
  convert move using 1
  rw [hu]
  rfl

end

/-! ## AWAIT from `REQ_WAIT` -/

section
variable {s : State} {busy : St → Bool}

theorem resync_waited (r : Resync) (s : State) (timer : Nat) (inputs : List CycleIn) (queue : List Byte) (o : CycleOut) :
    ∃ o', resync r (s.waited timer inputs queue o) = (resync r s).waited timer inputs queue o' := by
  unfold resync loseSync
  cases hs : s.sync <;> exact ⟨_, by simp only [State.waited, hs]; rfl⟩

theorem reconnect_waited (m : Byte) (s : State) (timer : Nat) (inputs : List CycleIn) (queue : List Byte) (o : CycleOut) :
    ∃ o', reconnect m (s.waited timer inputs queue o) = (reconnect m s).waited timer inputs queue o' := by
  unfold reconnect regainSync
  cases hs : s.sync <;> exact ⟨_, by simp only [State.waited, hs]; rfl⟩

/-- What the loop's part of an iteration leaves alone: all but the loop's registers, the FSM state, the timer and the
environment's side. -/
structure KeepsOutsideLoop (s t : State) : Prop where
  flags : KeepsFaultFlags s t
  transmit : KeepsTransmit s t
  receive : KeepsReceive s t
  model : KeepsModel s t

theorem KeepsOutsideLoop.trans {u t : State} (h : KeepsOutsideLoop s u) (h' : KeepsOutsideLoop u t) : KeepsOutsideLoop s t :=
  ⟨h.flags.trans h'.flags, h.transmit.trans h'.transmit, h.receive.trans h'.receive, h.model.trans h'.model⟩

/-- The FSM state, the timer and the environment's side are outside these frames. -/
theorem waited_keepsOutsideLoop (s : State) (st : St) (timer : Nat) (inputs : List CycleIn) (queue : List Byte)
    (o : CycleOut) : KeepsOutsideLoop s (({ s with st := st } : State).waited timer inputs queue o) :=
  ⟨⟨rfl, rfl, rfl⟩, ⟨rfl, rfl, rfl, rfl, fun _ => rfl, rfl⟩, ⟨rfl, rfl, rfl, fun _ => rfl⟩, ⟨rfl, rfl, rfl, rfl, rfl, rfl⟩⟩

theorem beginAwait_keepsOutsideLoop (s : State) : KeepsOutsideLoop s (beginAwait s) :=
  waited_keepsOutsideLoop s .reqWait s.cfg.cTimeout s.inputs s.rxQueue s.outs

theorem beginCycle_keepsOutsideLoop (i : CycleIn) (s : State) : KeepsOutsideLoop s (beginCycle i s) :=
  waited_keepsOutsideLoop s s.st s.timer _ _ _

theorem resync_keepsOutsideLoop (r : Resync) (s : State) : KeepsOutsideLoop s (resync r s) where
  flags := by constructor <;> simp
  transmit := ⟨by simp, by simp, by simp, by simp, txAt_congr (by simp), by simp⟩
  receive := ⟨by simp, by simp, by simp, rxAt_congr (by simp)⟩
  model := by constructor <;> simp

theorem reconnect_keepsOutsideLoop (m : Byte) (s : State) : KeepsOutsideLoop s (reconnect m s) where
  flags := by constructor <;> simp
  transmit := ⟨by simp, by simp, by simp, by simp, txAt_congr (by simp), by simp⟩
  receive := ⟨by simp, by simp, by simp, rxAt_congr (by simp)⟩
  model := by constructor <;> simp

/-- What an AWAIT that ends in a resync has done (R81, R124). -/
structure Resyncs (r : Resync) (s t : State) : Prop where
  modId : t.modId = s.modId
  lastResult : t.lastResult = resyncResult r
  lastModule : t.lastModule = s.lastModule
  sync : t.sync = .syncing
  events : t.events = s.events ++ loseEvents s
  st : t.st = .top
  keeps : KeepsOutsideLoop s t

theorem resync_resyncs (r : Resync) (s : State) (timer : Nat) (inputs : List CycleIn) (queue : List Byte)
    (o : CycleOut) : Resyncs r s ((resync r s).waited timer inputs queue o) where
  modId := resync_modId r s
  lastResult := resync_lastResult r s
  lastModule := resync_lastModule r s
  sync := resync_sync r s
  events := resync_events r s
  st := resync_st r s
  keeps := (resync_keepsOutsideLoop r s).trans (waited_keepsOutsideLoop _ (resync r s).st timer inputs queue o)

/-- It does not depend on how AWAIT was begun. -/
theorem Resyncs.of_beginAwait {r : Resync} {t : State} (h : Resyncs r (beginAwait s) t) : Resyncs r s t :=
  { h with keeps := (beginAwait_keepsOutsideLoop s).trans h.keeps }

theorem Resyncs.of_beginCycle {r : Resync} {t : State} {i : CycleIn} (h : Resyncs r (beginCycle i s) t) : Resyncs r s t :=
  { h with keeps := (beginCycle_keepsOutsideLoop i s).trans h.keeps }

theorem Resyncs.not_await {r : Resync} {t : State} (h : Resyncs r s t) : isAwait t.st = false := by
  rw [h.st]
  rfl

/-- No byte in the window: Timeout in the cycle after it (R85, R124). -/
theorem run_await_timeout (hst : s.st = .reqWait) (hbusy : busy .reqWait = true) (noReset : NoReset s)
    (silent : heardBy (s.timer + 1) s = []) :
    ∃ t, Run busy (s.timer + 1) s t ∧ Resyncs .timeout s t ∧ t.rxQueue = [] ∧ t.timer = 0 ∧
      t.inputs = s.inputs.drop (s.timer + 1) := by
  obtain ⟨o, run⟩ := run_ticks (busy := busy) (by simp [hst, countsDown]) (hst ▸ hbusy) noReset le_rfl
    fun _ => .inr (heardBy_empty (Nat.le_succ _) silent)
  rw [Nat.sub_self] at run
  obtain ⟨i, o, next⟩ := clock_waited noReset 0 s.timer o
  obtain ⟨o', same⟩ := resync_waited .timeout s 0 (s.inputs.drop (s.timer + 1)) (heardBy (s.timer + 1) s) o
  refine ⟨_, run.trans (.one (hst ▸ hbusy) ?_), resync_resyncs .timeout s 0 (s.inputs.drop (s.timer + 1)) [] o', rfl, rfl,
    rfl⟩
  rw [← silent, ← same]
  exact next _ (.timeout hst silent rfl)

/-- Another first byte is taken alone, in whichever cycle of the window it comes (R83, R124). -/
theorem run_await_invalid {b : Byte} {rest : List Byte} {j : Nat} (hst : s.st = .reqWait) (hbusy : busy .reqWait = true)
    (noReset : NoReset s) (hj : j ≤ s.timer) (silent : j = 0 ∨ heardBy j s = []) (heard : heardBy (j + 1) s = b :: rest)
    (hb : b ≠ s.cfg.sentinel) :
    ∃ t, Run busy (j + 1) s t ∧ Resyncs .invalid s t ∧ t.rxQueue = rest ∧ t.timer = s.timer - j ∧
      t.inputs = s.inputs.drop (j + 1) := by
  obtain ⟨o, run⟩ := run_ticks (busy := busy) (by simp [hst, countsDown]) (hst ▸ hbusy) noReset hj fun _ => silent
  obtain ⟨i, o, next⟩ := clock_waited noReset (s.timer - j) j o
  rw [heard] at next
  obtain ⟨o', same⟩ := resync_waited .invalid s (s.timer - j) (s.inputs.drop (j + 1)) rest { o with rxPop := true }
  refine ⟨_, run.trans (.one (hst ▸ hbusy) ?_),
    resync_resyncs .invalid s (s.timer - j) (s.inputs.drop (j + 1)) rest o', rfl, rfl, rfl⟩
  rw [← same]
  exact next _ (.invalid hst b rest rfl hb)

/-- `SENTINEL` in the window is taken alone too (R83). -/
theorem run_await_sentinel {rest : List Byte} {j : Nat} (hst : s.st = .reqWait) (hbusy : busy .reqWait = true)
    (noReset : NoReset s) (hj : j ≤ s.timer) (silent : j = 0 ∨ heardBy j s = [])
    (heard : heardBy (j + 1) s = s.cfg.sentinel :: rest) :
    ∃ o, Run busy (j + 1) s
      (({ s with st := .reqId } : State).waited (s.timer - j) (s.inputs.drop (j + 1)) rest o) := by
  obtain ⟨o, run⟩ := run_ticks (busy := busy) (by simp [hst, countsDown]) (hst ▸ hbusy) noReset hj fun _ => silent
  obtain ⟨i, o, next⟩ := clock_waited noReset (s.timer - j) j o
  rw [heard] at next
  exact ⟨{ o with rxPop := true }, run.trans (.one (hst ▸ hbusy) (next _ (.modeByte hst rest rfl)))⟩

/-- Where a ModuleId leads the loop (R126). -/
def afterModule (c : Config) (m : Byte) : St := if m = c.eamId ∨ m = c.gpsId then .build else .top

theorem afterModule_eq (c : Config) (m : Byte) : (if c.supports m = true then St.build else .top) = afterModule c m := by
  simp [afterModule, Config.supports]

/-- The module byte in `REQ_ID`, in whichever cycle it comes (R84). -/
theorem run_await_module {m : Byte} {rest : List Byte} {k : Nat} (hst : s.st = .reqId) (hbusy : busy .reqId = true)
    (noReset : NoReset s) (silent : k = 0 ∨ heardBy k s = []) (heard : heardBy (k + 1) s = m :: rest) :
    ∃ o, Run busy (k + 1) s (({ reconnect m s with st := afterModule s.cfg m } : State).waited s.timer
      (s.inputs.drop (k + 1)) rest o) := by
  have wait : ∃ o, Run busy k s (s.waited s.timer (s.inputs.drop k) (heardBy k s) o) := by
    obtain rfl | silent := silent
    · rw [heardBy_zero]
      exact ⟨s.outs, .refl s⟩
    · rw [silent]
      exact run_holds (by simp [hst, awaitsByte]) (hst ▸ hbusy) noReset silent
  obtain ⟨o, run⟩ := wait
  obtain ⟨i, o, next⟩ := clock_waited noReset s.timer k o
  rw [heard] at next
  have byte := next _ (.moduleByte (s := s.waited s.timer (s.inputs.drop (k + 1)) (m :: rest) o) hst m rest rfl)
  obtain ⟨o', same⟩ := reconnect_waited m s s.timer (s.inputs.drop (k + 1)) rest { o with rxPop := true }
  refine ⟨o', run.trans (.one (hst ▸ hbusy) (byte.trans ?_))⟩
  rw [← afterModule_eq]
  exact congrArg (fun u : State => Except.ok ({ u with st := if s.cfg.supports m then .build else .top } : State)) same

/-- A reconnect does not read the FSM state, the timer or the environment's side. -/
theorem reconnect_waited_st (m : Byte) (s : State) (st next : St) (timer timer' : Nat) (inputs inputs' : List CycleIn)
    (queue queue' : List Byte) (o o' : CycleOut) :
    ({ reconnect m (({ s with st := st } : State).waited timer inputs queue o) with st := next } : State).waited
      timer' inputs' queue' o' = ({ reconnect m s with st := next } : State).waited timer' inputs' queue' o' := by
  unfold reconnect regainSync
  cases s.sync <;> rfl

/-- A whole request, its bytes there in whichever cycles they come (R82 to R86). -/
theorem run_await_request {m : Byte} {rest : List Byte} {j k : Nat} (hst : s.st = .reqWait)
    (hbusy : ∀ st, isAwait st = true → busy st = true) (noReset : NoReset s) (htimer : s.timer = s.cfg.cTimeout)
    (heard : RequestHeard s 0 j k m rest) :
    ∃ o, Run busy (k + 1) s (({ reconnect m s with st := afterModule s.cfg m } : State).waited
      (s.cfg.cTimeout - j) (s.inputs.drop (k + 1)) rest o) := by
  obtain ⟨window, silence, first, later, waited, whole⟩ := heard
  simp only [Nat.zero_add] at silence first waited whole
  obtain ⟨n, rfl⟩ := Nat.exists_eq_add_of_lt later
  have cycles : j + n + 1 + 1 = j + 1 + (n + 1) := by omega
  have sentinel : ∃ q, heardBy (j + 1) s = s.cfg.sentinel :: q := by
    obtain ⟨b, q, hq⟩ := List.exists_cons_of_ne_nil first
    have head := heardBy_prefix s (Nat.succ_le_succ (Nat.le_succ_of_le (Nat.le_add_right j n)))
    rw [hq, whole, List.cons_prefix_cons] at head
    exact ⟨q, head.1 ▸ hq⟩
  obtain ⟨q, hq⟩ := sentinel
  obtain ⟨o, toId⟩ := run_await_sentinel hst (hbusy .reqWait rfl) noReset (htimer ▸ window) silence hq
  obtain ⟨u, hu⟩ : ∃ u, u = ({ s with st := .reqId } : State).waited (s.timer - j) (s.inputs.drop (j + 1)) q o := ⟨_, rfl⟩
  have behind : ∀ d, heardBy (j + 1 + d) s = [s.cfg.sentinel] ++ heardBy d u :=
    heardBy_after (by rw [hu]; exact hq) (by rw [hu]; rfl) (by rw [hu]; rfl)
  have silent : n = 0 ∨ heardBy n u = [] := by
    refine waited.imp (fun h => by omega) fun h => ?_
    simpa [Nat.add_right_comm j 1 n, h] using behind n
  have byte : heardBy (n + 1) u = m :: rest := by
    simpa [← cycles, whole] using (behind (n + 1)).symm
  obtain ⟨o', toEnd⟩ := run_await_module (s := u) (by rw [hu]; rfl) (hbusy .reqId rfl)
    (allInputs_drop noReset (k := j + 1) (by rw [hu]; rfl) (by rw [hu]; rfl)) silent byte
  refine ⟨o', ?_⟩
  have run := toId.trans (hu ▸ toEnd)
  rw [reconnect_waited_st, State.waited_inputs, State.waited_timer, List.drop_drop, htimer] at run
  rw [cycles]
  exact run

/-! ## The operation -/

/-- The fuel of AWAIT is enough from its first cycle on. -/
theorem enough_beginAwait (s : State) : Enough (operationFuel s) (beginAwait s) :=
  enough_operationFuel rfl le_rfl (cyclesLeft_le_operationBound (cTimeout_le_maxDelay s.cfg) nofun nofun)

/-- AWAIT in `TOP` is the run from its first cycle (entry 12). -/
theorem exec_await_of_run {t : State} {k : Nat} (hst : s.st = .top) (run : Run isAwait k (beginAwait s) t)
    (hend : isAwait t.st = false) : exec .await s = .next t := by
  have begun : exec .await s = answer (runWhile isAwait (operationFuel s) (beginAwait s)) := by
    simp only [exec, execAwait, hst]
  rw [begun, run.runWhile_eq active_of_isAwait (enough_beginAwait s) hend]
  rfl

theorem afterModule_not_await (c : Config) (m : Byte) : isAwait (afterModule c m) = false := by
  unfold afterModule
  split <;> rfl

/-- Settles O37: the run to the module byte, whose last cycle is the reconnect. -/
theorem awaitReturnsModule : Obligations.AwaitReturnsModule := by
  unfold Obligations.AwaitReturnsModule
  intro s m rest j k hst noReset heard
  obtain ⟨o, run⟩ := run_await_request (s := beginAwait s) rfl (fun _ => id) noReset rfl { heard with }
  have keeps := ((beginAwait_keepsOutsideLoop s).trans (reconnect_keepsOutsideLoop m _)).trans
    (waited_keepsOutsideLoop _ (afterModule s.cfg m) (s.cfg.cTimeout - j) (s.inputs.drop (k + 1)) rest o)
  exact ⟨_, exec_await_of_run hst run (afterModule_not_await _ m), rfl, reconnect_modId m _, reconnect_lastResult m _,
    reconnect_lastModule m _, reconnect_sync m _, reconnect_events m _, rfl, rfl, rfl, run.clocks, keeps.flags,
    keeps.transmit, keeps.receive, keeps.model⟩

/-- Settles O38: the run to the first byte, whose last cycle is the resync. -/
theorem awaitReturnsInvalid : Obligations.AwaitReturnsInvalid := by
  unfold Obligations.AwaitReturnsInvalid
  intro s b rest j hst noReset hj silent heard hb
  obtain ⟨t, run, resyncs, hqueue, htimer, hinputs⟩ :=
    run_await_invalid (s := beginAwait s) (busy := isAwait) rfl rfl noReset hj silent heard hb
  have ends := exec_await_of_run hst run resyncs.not_await
  obtain ⟨hid, hresult, hmodule, hsync, hevents, hend, keeps⟩ := resyncs.of_beginAwait
  exact ⟨t, ends, hqueue, hid, hresult, hmodule, hsync, hevents, hend, htimer, hinputs, run.clocks, keeps.flags,
    keeps.transmit, keeps.receive, keeps.model⟩

/-- Settles O39: the run to the end of the window, whose last cycle is the resync. -/
theorem awaitTimesOut : Obligations.AwaitTimesOut := by
  unfold Obligations.AwaitTimesOut
  intro s hst noReset silent
  obtain ⟨t, run, resyncs, hqueue, htimer, hinputs⟩ :=
    run_await_timeout (s := beginAwait s) (busy := isAwait) rfl rfl noReset silent
  have ends := exec_await_of_run hst run resyncs.not_await
  obtain ⟨hid, hresult, hmodule, hsync, hevents, hend, keeps⟩ := resyncs.of_beginAwait
  exact ⟨t, ends, hqueue, hid, hresult, hmodule, hsync, hevents, hend, htimer, hinputs, run.clocks, keeps.flags,
    keeps.transmit, keeps.receive, keeps.model⟩

/-! ## A lone `SENTINEL` -/

/-- A silent line gives nothing. -/
theorem SilentLine.lineBytes (silent : SilentLine s) (k : Nat) : lineBytes k s = [] := by
  have none_given : ∀ listed : List CycleIn, (∀ i ∈ listed, i.rx = []) → (portValues s.held k listed).flatMap (·.rx) = [] := by
    induction k with
    | zero => simp
    | succ k ih =>
      intro listed hlisted
      have first : (listed.headD s.held).rx = [] := by
        cases listed with
        | nil => exact silent.1
        | cons i rest => exact hlisted i List.mem_cons_self
      rw [portValues_succ, List.flatMap_cons, first, List.nil_append]
      exact ih _ fun i hi => hlisted i (List.mem_of_mem_tail hi)
  exact none_given s.inputs silent.2

theorem SilentLine.heardBy (silent : SilentLine s) (k : Nat) : heardBy k s = s.rxQueue := by
  rw [Machine.heardBy, silent.lineBytes, List.append_nil]

/-- With `SENTINEL` alone queued on a silent line AWAIT stands in `REQ_ID` after any number of cycles (R86, R163). -/
theorem run_await_lone_sentinel (noReset : NoReset s) (silent : SilentLine s) (hq : s.rxQueue = [s.cfg.sentinel])
    (k : Nat) :
    ∃ t, Run isAwait (k + 1) (beginAwait s) t ∧ t.st = .reqId ∧ t.rxQueue = [] ∧ t.timer = s.cfg.cTimeout ∧
      t.events = s.events ∧ t.inputs = s.inputs.drop (k + 1) ∧ KeepsLoop s t ∧ KeepsOutsideLoop s t := by
  have heard : ∀ n, Machine.heardBy n (beginAwait s) = [s.cfg.sentinel] := fun n => (silent.heardBy n).trans hq
  obtain ⟨o, toId⟩ := run_await_sentinel (s := beginAwait s) (busy := isAwait) (j := 0) rfl rfl noReset (Nat.zero_le _)
    (.inl rfl) (heard 1)
  obtain ⟨u, hu⟩ : ∃ u, u = ({ s with st := .reqId } : State).waited s.cfg.cTimeout (s.inputs.drop 1) [] o := ⟨_, rfl⟩
  have nothing : Machine.heardBy k u = [] := by
    have behind := heardBy_after (s := beginAwait s) (t := u) (popped := [s.cfg.sentinel]) (k := 1) (by rw [heard, hu]; rfl)
      (by rw [hu]; rfl) (by rw [hu]; rfl) k
    simpa [heard] using behind
  obtain ⟨o', holds⟩ := run_holds (s := u) (busy := isAwait) (by rw [hu]; rfl) (by rw [hu]; rfl)
    (allInputs_drop noReset (k := 1) (by rw [hu]; rfl) (by rw [hu]; rfl)) nothing
  have taken : u.inputs.drop k = s.inputs.drop (k + 1) := by rw [hu, State.waited_inputs, List.drop_drop, Nat.add_comm]
  rw [taken] at holds
  have run := toId.trans (hu ▸ holds)
  rw [Nat.zero_add, Nat.add_comm] at run
  exact ⟨_, run, rfl, rfl, rfl, rfl, rfl, ⟨rfl, rfl, rfl, rfl⟩,
    waited_keepsOutsideLoop s .reqId s.cfg.cTimeout (s.inputs.drop (k + 1)) [] o'⟩

/-- Settles O40: the run stands in `REQ_ID` after any number of cycles, and AWAIT's fuel is one such number. -/
theorem awaitWaitsForModuleByte : Obligations.AwaitWaitsForModuleByte := by
  unfold Obligations.AwaitWaitsForModuleByte
  intro s hst noReset silent hq
  refine ⟨?_, fun k => ?_⟩
  · obtain ⟨n, hn⟩ : ∃ n, operationFuel s = n + 1 := ⟨_, rfl⟩
    obtain ⟨t, run, hend, hqueue, -, -, hinputs, keepsLoop, -⟩ := run_await_lone_sentinel noReset silent hq n
    have ends := run.runWhile 0
    rw [Nat.add_zero, ← hn] at ends
    have answers : exec .await s = .next t := by
      simp only [exec, execAwait, hst, ends]
      rfl
    have used : s.inputs.drop (n + 1) = [] := List.drop_eq_nil_of_le (hn ▸ Nat.le_add_right _ _)
    exact ⟨t, answers, hend, hqueue, keepsLoop, hinputs.trans used⟩
  · obtain ⟨t, run, hend, hqueue, htimer, hevents, -, keepsLoop, keeps⟩ := run_await_lone_sentinel noReset silent hq k
    exact ⟨t, run.clocks, hend, hqueue, htimer, hevents, keepsLoop, keeps.flags, keeps.transmit, keeps.receive⟩

/-! ## A silent line -/

/-- `TOP` goes on into AWAIT unless `shutdown` is up (R121). -/
theorem clock_listen (hst : s.st = .top) (noReset : NoReset s) (hdown : s.thisInput.shutdown = false) :
    clock s = .ok (beginAwait (beginCycle s.thisInput s)) :=
  clock_of_move noReset (.listen hst hdown)

/-- ITERATE in `TOP` is its first cycle and the run behind it. -/
theorem exec_iterate_of_run {u t : State} {k : Nat} (hfirst : clock s = .ok u) (run : Run inIteration k u t)
    (enough : Enough (operationFuel s) u) (hend : inIteration t.st = false) : exec .iterate s = .next t := by
  have rest := run.runWhile_eq active_of_inIteration enough hend
  exact answer_next.mpr (by rw [hfirst]; exact rest)

/-- The fuel of ITERATE is enough after its first cycle. -/
theorem enough_beginAwait_beginCycle (s : State) (i : CycleIn) :
    Enough (operationFuel s) (beginAwait (beginCycle i s)) :=
  enough_operationFuel rfl (by simp) (cyclesLeft_le_operationBound (cTimeout_le_maxDelay s.cfg) nofun nofun)

/-- Settles O52: the `TOP` cycle and an AWAIT that times out. -/
theorem iterateResyncsOnSilence : Obligations.IterateResyncsOnSilence := by
  unfold Obligations.IterateResyncsOnSilence
  intro s hst noReset hdown silent
  have first := clock_listen hst noReset hdown
  have heard : Machine.heardBy (s.cfg.cTimeout + 1) (beginAwait (beginCycle s.thisInput s)) = [] :=
    (heardBy_succ (s := s) (by rfl) (by rfl) (by rfl) _).trans silent
  obtain ⟨t, run, resyncs, hqueue, -, hinputs⟩ := run_await_timeout (s := beginAwait (beginCycle s.thisInput s))
    (busy := inIteration) rfl rfl (allInputs_clockOn noReset first) heard
  have ends := exec_iterate_of_run first run (enough_beginAwait_beginCycle s _) (by rw [resyncs.st]; rfl)
  obtain ⟨hid, hresult, hmodule, hsync, hevents, hend, keeps⟩ := resyncs.of_beginAwait.of_beginCycle
  have taken : s.inputs.tail.drop (s.cfg.cTimeout + 1) = s.inputs.drop (s.cfg.cTimeout + 2) := List.drop_tail ..
  exact ⟨t, ends, hend, hresult, hmodule, hid, hsync, hevents, hqueue, hinputs.trans taken,
    (clocks_succ_of_clock first _).trans run.clocks, keeps.flags, keeps.transmit, keeps.receive, keeps.model⟩

/-- With `shutdown` up `TOP` is left for `STOPPED` (R121). -/
theorem clock_exit (hst : s.st = .top) (noReset : NoReset s) (hdown : s.thisInput.shutdown = true) :
    ∃ t, clock s = .ok t ∧ t.st = .stopped ∧ KeepsOutsideLoop s t :=
  ⟨_, clock_of_move noReset (.exit hst hdown), rfl, (beginCycle_keepsOutsideLoop _ s).trans
    (waited_keepsOutsideLoop (beginCycle s.thisInput s) .stopped s.timer s.inputs.tail (beginCycle s.thisInput s).rxQueue
      (beginCycle s.thisInput s).outs)⟩

/-- Settles O60: from `TOP` the next cycle leaves the loop; from `REQ_WAIT` AWAIT times out first. -/
theorem shutdownLatencyOnSilence : Obligations.ShutdownLatencyOnSilence := by
  unfold Obligations.ShutdownLatencyOnSilence
  intro s hst htimer noReset silent hdown
  obtain hst | hst := hst
  · obtain ⟨t, exits, hend, keeps⟩ := clock_exit hst noReset (allInputs_thisInput hdown)
    exact ⟨1, t, Nat.le_add_left 1 _, (clocks_one s).trans exits, hend, by simp [State.running, hend], keeps.flags,
      keeps.transmit, keeps.receive⟩
  · obtain ⟨u, run, resyncs, -, -, hinputs⟩ :=
      run_await_timeout (busy := isAwait) hst rfl noReset (heardBy_empty (by omega) silent)
    have held : u.held = s.held := resyncs.keeps.model.held
    obtain ⟨t, exits, hend, after⟩ := clock_exit resyncs.st (allInputs_drop noReset held hinputs)
      (allInputs_thisInput (allInputs_drop hdown held hinputs))
    have keeps := resyncs.keeps.trans after
    refine ⟨s.timer + 1 + 1, t, by omega, ?_, hend, by simp [State.running, hend], keeps.flags, keeps.transmit,
      keeps.receive⟩
    rw [clocks_add, run.clocks]
    exact (clocks_one u).trans exits

end
end Sys2Proof.Machine
end

section
/-! PROOFS of RECV_FRAME (R88 to R98): the poll, and the accumulation of a frame whose bytes come at any time, by an invariant
that names the bytes taken off the line so far. -/

namespace Sys2Proof.Machine

/-! ## First match -/

section
variable {c : Config}

/-- A body without a terminator, the terminator and one more byte are split off (R77). -/
theorem splitFrame_of_body {body : List Byte} (hbody : ∀ b ∈ body, b ≠ c.terminator) (x : Byte) (rest : List Byte) :
    splitFrame c (body ++ [c.terminator, x] ++ rest) = some (body ++ [c.terminator, x], rest) := by
  induction body with
  | nil => simp [splitFrame, scan]
  | cons b body ih =>
    have hb : b ≠ c.terminator := hbody b List.mem_cons_self
    have split := ih fun b hb => hbody b (List.mem_cons_of_mem _ hb)
    simp only [List.cons_append, splitFrame, scan, beq_iff_eq, if_neg hb]
    simpa using split

/-- Nothing else is split off (R77). -/
theorem body_of_splitFrame {stream frame rest : List Byte} (h : splitFrame c stream = some (frame, rest)) :
    ∃ body x, (∀ b ∈ body, b ≠ c.terminator) ∧ frame = body ++ [c.terminator, x] ∧ stream = frame ++ rest := by
  induction stream generalizing frame with
  | nil => cases h
  | cons b tail ih =>
    unfold splitFrame at h
    by_cases hb : b = c.terminator
    · cases tail with
      | nil => simp [scan, hb] at h
      | cons x tail =>
        simp only [scan, hb, beq_self_eq_true, if_true, Option.some.injEq, Prod.mk.injEq] at h
        obtain ⟨rfl, rfl⟩ := h
        exact ⟨[], x, by simp, rfl, by rw [hb]; rfl⟩
    · simp only [scan, beq_iff_eq, if_neg hb, Option.map_eq_some_iff, Prod.mk.injEq] at h
      obtain ⟨⟨front, left⟩, hsplit, rfl, rfl⟩ := h
      obtain ⟨body, x, hbody, rfl, rfl⟩ := ih hsplit
      refine ⟨b :: body, x, ?_, rfl, rfl⟩
      rintro a (_ | ⟨_, ha⟩)
      · exact hb
      · exact hbody a ha

end

/-- Settles O42: first match, read both ways. -/
theorem frameEndsAfterFirstTerminator : Obligations.FrameEndsAfterFirstTerminator := by
  unfold Obligations.FrameEndsAfterFirstTerminator
  intro c stream frame rest
  refine ⟨body_of_splitFrame, ?_⟩
  rintro ⟨body, x, hbody, rfl, rfl⟩
  exact splitFrame_of_body hbody x rest

section
variable {c : Config}

/-- More bytes behind a frame do not change it (R77). -/
theorem splitFrame_append {stream frame rest : List Byte} (h : splitFrame c stream = some (frame, rest))
    (more : List Byte) : splitFrame c (stream ++ more) = some (frame, rest ++ more) := by
  obtain ⟨body, x, hbody, rfl, rfl⟩ := body_of_splitFrame h
  rw [List.append_assoc]
  exact splitFrame_of_body hbody x _

/-- The frame of a stream is the frame of any stream it begins, and of itself. -/
theorem splitFrame_of_prefix {stream longer frame rest : List Byte} (h : splitFrame c stream = some (frame, rest))
    (hprefix : frame <+: longer) : ∃ rest', splitFrame c longer = some (frame, rest') := by
  obtain ⟨body, x, hbody, rfl, -⟩ := body_of_splitFrame h
  obtain ⟨more, rfl⟩ := hprefix
  exact ⟨more, splitFrame_of_body hbody x more⟩

theorem frame_prefix {stream frame rest : List Byte} (h : splitFrame c stream = some (frame, rest)) :
    frame <+: stream := by
  obtain ⟨_, _, _, _, rfl⟩ := body_of_splitFrame h
  exact List.prefix_append _ _

theorem splitFrame_no_terminator {got : List Byte} (h : ∀ b ∈ got, b ≠ c.terminator) : splitFrame c got = none := by
  refine Option.eq_none_iff_forall_ne_some.mpr fun ⟨frame, rest⟩ hs => ?_
  obtain ⟨body, x, -, rfl, rfl⟩ := body_of_splitFrame hs
  exact h c.terminator (by simp) rfl

theorem splitFrame_open {body : List Byte} (h : ∀ b ∈ body, b ≠ c.terminator) :
    splitFrame c (body ++ [c.terminator]) = none := by
  refine Option.eq_none_iff_forall_ne_some.mpr fun ⟨frame, rest⟩ hs => ?_
  have shorter := frame_prefix (splitFrame_append hs [0])
  have own := splitFrame_of_body h (0 : Byte) []
  rw [List.append_nil, show body ++ [c.terminator, (0 : Byte)] = body ++ [c.terminator] ++ [0] by simp,
    splitFrame_append hs [0], Option.some.injEq, Prod.mk.injEq] at own
  simpa using own.2

end

/-! ## The settling delay and the poll -/

section
variable {s : State} {busy : St → Bool}

/-- RECV_FRAME's settling delay, whatever the line gives in it (R91). -/
theorem run_settle (hst : s.st = .rfSettle) (hbusy : busy .rfSettle = true) (noReset : NoReset s) :
    ∃ u o, Run busy (s.timer + 1) s u ∧ u = ({ s with st := .rfPoll } : State).waited s.cfg.cTimeout
      (s.inputs.drop (s.timer + 1)) (heardBy (s.timer + 1) s) o := by
  obtain ⟨o, run⟩ := run_ticks (busy := busy) (by simp [hst, countsDown]) (hst ▸ hbusy) noReset le_rfl
    (by simp [hst, listens])
  rw [Nat.sub_self] at run
  obtain ⟨i, o, next⟩ := clock_waited noReset 0 s.timer o
  exact ⟨_, o, run.trans (.one (hst ▸ hbusy) (next _ (.poll hst rfl))), rfl⟩

/-- The poll hears a byte after `p` silent cycles, in which nothing was popped (R92). -/
theorem run_poll_heard {p : Nat} (hst : s.st = .rfPoll) (hbusy : busy .rfPoll = true) (noReset : NoReset s)
    (hp : p ≤ s.timer) (silent : p = 0 ∨ heardBy p s = []) (heard : heardBy (p + 1) s ≠ []) :
    ∃ u o, Run busy (p + 1) s u ∧ u = ({ s with rxCount := 0, st := .rfScan } : State).waited (s.timer - p)
      (s.inputs.drop (p + 1)) (heardBy (p + 1) s) o := by
  obtain ⟨o, run⟩ := run_ticks (busy := busy) (by simp [hst, countsDown]) (hst ▸ hbusy) noReset hp fun _ => silent
  obtain ⟨i, o, next⟩ := clock_waited noReset (s.timer - p) p o
  exact ⟨_, o, run.trans (.one (hst ▸ hbusy) (next _ (.heard hst heard))), rfl⟩

/-- The poll's window ends in silence (R92). -/
theorem run_poll_timeout (hst : s.st = .rfPoll) (hbusy : busy .rfPoll = true) (noReset : NoReset s)
    (silent : heardBy (s.timer + 1) s = []) :
    ∃ u o, Run busy (s.timer + 1) s u ∧ u = pulseRfDone (({ s with
      rfStatus := .timeout, rfLen := 0, st := .stopped } : State).waited 0 (s.inputs.drop (s.timer + 1)) [] o) := by
  obtain ⟨o, run⟩ := run_ticks (busy := busy) (by simp [hst, countsDown]) (hst ▸ hbusy) noReset le_rfl
    fun _ => .inr (heardBy_empty (Nat.le_succ _) silent)
  rw [Nat.sub_self] at run
  obtain ⟨i, o, next⟩ := clock_waited noReset 0 s.timer o
  rw [silent] at next
  exact ⟨_, o, run.trans (.one (hst ▸ hbusy) (next _ (.pollTimeout hst rfl rfl))), rfl⟩

end

/-! ## The invocation -/

section
variable {s : State}

/-- The state RECV_FRAME's first cycle leaves: the settling delay is loaded (R90). -/
def receiving (s : State) : State :=
  { beginCycle s.thisInput s with timer := s.cfg.cRxSettle, st := .rfSettle }

theorem clockOn_recvCmd (hst : s.st = .stopped) (noReset : NoReset s) (hstart : s.thisInput.start = false) :
    clockOn { s.thisInput with recvCmd := true } s = .ok (receiving s) := by
  have low : ({ s.thisInput with recvCmd := true } : CycleIn).rst = false := noReset.thisInput
  exact (clockOn_ok_iff low).mpr (.receive hst hstart rfl)

theorem receiving_noReset (noReset : NoReset s) : NoReset (receiving s) :=
  allInputs_drop noReset (k := 1) rfl (List.drop_one).symm

theorem heardBy_receiving (k : Nat) : heardBy k (receiving s) = heardBy (k + 1) s :=
  heardBy_succ (by rfl) (by rfl) (by rfl) k

/-- RECV_FRAME in `STOPPED` is the run behind its first cycle. -/
theorem exec_recvFrame (hst : s.st = .stopped) (noReset : NoReset s) (hstart : s.thisInput.start = false) :
    exec .recvFrame s = answer (runWhile isRecv (operationFuel s) (receiving s)) := by
  have first : (clockOn { s.thisInput with recvCmd := true } s).bind (runWhile isRecv (operationFuel s)) =
      runWhile isRecv (operationFuel s) (receiving s) := by
    rw [clockOn_recvCmd hst noReset hstart, Except.bind]
  exact congrArg answer first

/-- The fuel of RECV_FRAME is enough for it. -/
theorem enough_receiving (s : State) : Enough (operationFuel s) (receiving s) :=
  enough_operationFuel rfl (by simp [receiving]) (cyclesLeft_le_operationBound (cRxSettle_le_maxDelay s.cfg) nofun nofun)

end

/-- The poll begins `C_RX_SETTLE + 2` cycles after the pulse, with its window loaded and nothing popped (R91, R183). -/
theorem run_to_poll {s : State} (noReset : NoReset s) :
    ∃ u o, Run isRecv (s.cfg.cRxSettle + 1) (receiving s) u ∧
      u = ({ receiving s with st := .rfPoll } : State).waited s.cfg.cTimeout (s.inputs.drop (s.cfg.cRxSettle + 2))
        (heardBy (s.cfg.cRxSettle + 2) s) o := by
  obtain ⟨u, o, run, hu⟩ := run_settle (s := receiving s) (busy := isRecv) rfl rfl (receiving_noReset noReset)
  refine ⟨u, o, run, hu.trans ?_⟩
  rw [heardBy_receiving]
  have taken : (receiving s).inputs.drop ((receiving s).timer + 1) = s.inputs.drop (s.cfg.cRxSettle + 2) :=
    List.drop_tail ..
  rw [taken]
  rfl

/-- Settles O43: the settling delay and a poll that hears nothing. -/
theorem recvFrameTimesOut : Obligations.RecvFrameTimesOut := by
  unfold Obligations.RecvFrameTimesOut
  intro s hst noReset hstart silent
  obtain ⟨u, o, settle, hu⟩ := run_to_poll noReset
  have heard : ∀ n, heardBy (s.cfg.cRxSettle + 2 + n) s = [] ++ heardBy n u :=
    heardBy_after (by rw [hu]; rfl) (by rw [hu]; rfl) (by rw [hu]; rfl)
  have htimer : u.timer = s.cfg.cTimeout := by rw [hu]; rfl
  have nothing : heardBy (u.timer + 1) u = [] := by
    rw [htimer, ← List.nil_append (heardBy _ u), ← heard, ← silent]
    congr 1
    omega
  have noResetU : NoReset u := allInputs_drop noReset (k := s.cfg.cRxSettle + 2) (by rw [hu]; rfl) (by rw [hu]; rfl)
  obtain ⟨t, o', poll, ht⟩ := run_poll_timeout (s := u) (busy := isRecv) (by rw [hu]; rfl) rfl noResetU nothing
  have run := settle.trans poll
  have hend : isRecv t.st = false := by rw [ht]; rfl
  have ends : exec .recvFrame s = .next t := by
    rw [exec_recvFrame hst noReset hstart, run.runWhile_eq active_of_isRecv (enough_receiving s) hend, answer]
  have cycles : s.cfg.cRxSettle + 1 + (u.timer + 1) = s.cfg.cRxSettle + s.cfg.cTimeout + 2 := by omega
  have clocked : (clockOn { s.thisInput with recvCmd := true } s).bind
      (clocks (s.cfg.cRxSettle + s.cfg.cTimeout + 2)) = .ok t := by
    rw [clockOn_recvCmd hst noReset hstart, ← cycles]
    exact run.clocks
  have taken : t.inputs = s.inputs.drop (s.cfg.cRxSettle + s.cfg.cTimeout + 3) := by
    rw [ht, pulseRfDone_inputs, State.waited_inputs, hu, State.waited_inputs, List.drop_drop, State.waited_timer]
    congr 1
    omega
  subst ht hu
  exact ⟨_, ends, rfl, rfl, rfl, rfl, rfl, fun _ => rfl, rfl, rfl, taken, clocked, ⟨rfl, rfl, rfl⟩, ⟨rfl, rfl, rfl, rfl⟩,
    ⟨rfl, rfl, rfl, rfl, fun _ => rfl, rfl⟩, ⟨rfl, rfl, rfl, rfl, rfl, rfl⟩⟩

/-! ## The accumulation -/

/-- What a reception keeps while it goes on: nothing is reported yet. -/
structure Unreported (w u : State) : Prop where
  flags : KeepsFaultFlags w u
  rfStatus : u.rfStatus = w.rfStatus
  rfLen : u.rfLen = w.rfLen
  events : u.events = w.events

/-- Where a reception begun in `w` stands, by the bytes `got` it has taken (R93 to R98). -/
inductive ReceptionPhase (w u : State) (got : List Byte) : Prop where
  /-- No terminator yet. -/
  | scanning (hst : u.st = .rfScan) (hbody : ∀ b ∈ got, b ≠ w.cfg.terminator) (unreported : Unreported w u)
  /-- The terminator is the last byte. -/
  | trailing (hst : u.st = .rfTrail) (body : List Byte) (hbody : ∀ b ∈ body, b ≠ w.cfg.terminator)
      (hgot : got = body ++ [w.cfg.terminator]) (unreported : Unreported w u)
  /-- The frame is whole and reported. -/
  | reported (hst : u.st = .stopped) (whole : splitFrame w.cfg got = some (got, [])) (flags : KeepsFaultFlags w u)
      (hstatus : u.rfStatus = .ok) (hlen : u.rfLen = got.length) (hevents : u.events = w.events ++ [.rfDone])
  /-- `rxbuf` is full, no frame is whole and one more byte is there. -/
  | overrun (hst : u.st = .fault) (unfinished : splitFrame w.cfg got = none) (full : got.length = w.cfg.rxCapacity)
      (more : u.rxQueue ≠ []) (hfault : u.fault = true) (hcode : u.faultCode = .rxOverrun)
      (hstart : u.startFailed = w.startFailed) (hstatus : u.rfStatus = w.rfStatus) (hlen : u.rfLen = w.rfLen)
      (hevents : u.events = w.events)

/-- After `c` cycles of a reception begun in `w` the bytes taken stand in `rxbuf`, the rest of the line is queued, and the other
kinds of state are as they were. -/
structure Taken (w : State) (c : Nat) (got : List Byte) (u : State) : Prop where
  heard : heardBy c w = got ++ u.rxQueue
  inputs : u.inputs = w.inputs.drop c
  count : u.rxCount = got.length
  fits : got.length ≤ w.cfg.rxCapacity
  stored : u.rxFrame got.length = got
  above : ∀ a, got.length ≤ a → u.rxAt a = w.rxAt a
  timer : u.timer = w.timer
  loop : KeepsLoop w u
  transmit : KeepsTransmit w u
  model : KeepsModel w u

/-- A reception begun in `w` after `c` cycles. -/
structure Reception (w : State) (c : Nat) (got : List Byte) (u : State) : Prop where
  taken : Taken w c got u
  phase : ReceptionPhase w u got

theorem rxFrame_succ (s : State) (n : Nat) : s.rxFrame (n + 1) = s.rxFrame n ++ [s.rxAt n] := by
  simp [State.rxFrame, List.range_succ]

theorem rxFrame_congr {s t : State} {n : Nat} (h : ∀ a, a < n → t.rxAt a = s.rxAt a) : t.rxFrame n = s.rxFrame n :=
  List.map_congr_left fun a ha => h a (List.mem_range.mp ha)

section
variable {w u : State} {c : Nat} {got : List Byte}

/-- A cycle takes the ports of one cycle. -/
theorem drop_succ_of_tail {xs ys : List CycleIn} (h : ys = xs.drop c) : ys.tail = xs.drop (c + 1) := by
  rw [h, List.tail_drop]

/-- A cycle begins: the line gives its bytes behind those taken. -/
theorem Taken.begun (taken : Taken w c got u) : Taken w (c + 1) got (beginCycle u.thisInput u) :=
  { taken with
    heard := by rw [heardBy_after taken.heard taken.inputs taken.model.held, heardBy_one]; rfl
    inputs := drop_succ_of_tail taken.inputs
    loop := { taken.loop with }
    transmit := { taken.transmit with }
    model := { taken.model with } }

/-- A begun cycle is still in its phase. -/
theorem ReceptionPhase.begun (phase : ReceptionPhase w u got) (hrecv : isRecv u.st = true) :
    ReceptionPhase w (beginCycle u.thisInput u) got := by
  cases phase with
  | scanning hst hbody unreported => exact .scanning hst hbody { unreported with flags := { unreported.flags with } }
  | trailing hst body hbody hgot unreported =>
    exact .trailing hst body hbody hgot { unreported with flags := { unreported.flags with } }
  | reported hst => simp [hst, isRecv] at hrecv
  | overrun hst => simp [hst, isRecv] at hrecv

/-- The head byte is taken off the queue and stored (R39, R93, R94). -/
def storeHead (b : Byte) (s : State) : State :=
  { popRx s with rxbuf := s.rxbuf.write s.rxCount b, rxCount := s.rxCount + 1 }

/-- What a store makes of the bytes taken. -/
theorem Taken.store (taken : Taken w c got u) {b : Byte} {rest : List Byte} (hq : u.rxQueue = b :: rest)
    (hroom : u.rxCount < u.cfg.rxCapacity) : Taken w c (got ++ [b]) (storeHead b u) := by
  have written : (storeHead b u).rxbuf = u.rxbuf.write got.length b := by rw [← taken.count]; rfl
  have last : (storeHead b u).rxAt got.length = b := by rw [State.rxAt, written, read_write_same, Option.getD_some]
  have front : (storeHead b u).rxFrame got.length = got :=
    (rxFrame_congr fun a ha => rxAt_write_ne written rfl ha.ne).trans taken.stored
  have longer : (got ++ [b]).length = got.length + 1 := by simp
  exact { taken with
    heard := by simp [taken.heard, hq, storeHead]
    count := by rw [longer, ← taken.count]; rfl
    fits := by rw [longer, ← taken.count, ← taken.model.cfg]; exact hroom
    stored := by rw [longer, rxFrame_succ, front, last]
    above := fun a ha =>
      (rxAt_write_ne written rfl (by omega)).trans (taken.above a (by omega))
    loop := { taken.loop with }
    transmit := { taken.transmit with }
    model := { taken.model with } }

/-- A cycle of a reception without reset goes on with it, whether or not a byte is there (R93, R94). -/
theorem Reception.clock (rec : Reception w c got u) (noReset : NoReset u) (hrecv : isRecv u.st = true) :
    ∃ v got', Machine.clock u = .ok v ∧ Reception w (c + 1) got' v := by
  have taken := rec.taken.begun
  have phase := rec.phase.begun hrecv
  have hrecv : isRecv (beginCycle u.thisInput u).st = true := hrecv
  have next : ∀ v, Move u.thisInput (beginCycle u.thisInput u) v → Machine.clock u = .ok v := fun v =>
    clock_of_move noReset
  generalize beginCycle u.thisInput u = x at taken phase hrecv next
  have unfinished : splitFrame w.cfg got = none ∧ Unreported w x ∧ (x.st = .rfScan ∨ x.st = .rfTrail) := by
    cases phase with
    | scanning hst hbody unreported => exact ⟨splitFrame_no_terminator hbody, unreported, .inl hst⟩
    | trailing hst body hbody hgot unreported => exact ⟨hgot ▸ splitFrame_open hbody, unreported, .inr hst⟩
    | reported hst => simp [hst, isRecv] at hrecv
    | overrun hst => simp [hst, isRecv] at hrecv
  obtain ⟨hnone, unreported, hst⟩ := unfinished
  cases hq : x.rxQueue with
  | nil =>
    have waits : awaitsByte x.st = true := by rcases hst with h | h <;> simp [h, awaitsByte]
    exact ⟨x, got, next x (.hold waits hq), taken, phase⟩
  | cons b rest =>
    have heard : x.rxQueue ≠ [] := by simp [hq]
    by_cases hfull : x.rxCount = x.cfg.rxCapacity
    · refine ⟨_, got, next _ (.fault .rxOverrun (.rxOverrun hst heard hfull)),
        { taken with loop := { taken.loop with }, transmit := { taken.transmit with }, model := { taken.model with } }, ?_⟩
      exact .overrun rfl hnone (by rw [← taken.count, hfull, taken.model.cfg]) heard rfl rfl unreported.flags.startFailed
        unreported.rfStatus unreported.rfLen unreported.events
    · have hroom : x.rxCount < x.cfg.rxCapacity := by
        refine lt_of_le_of_ne ?_ hfull
        rw [taken.count, taken.model.cfg]
        exact taken.fits
      have stored := taken.store hq hroom
      cases phase with
      | scanning hst hbody =>
        refine ⟨_, got ++ [b], next _ (.store hst b rest hq hroom),
          { stored with loop := { stored.loop with }, transmit := { stored.transmit with }, model := { stored.model with } }, ?_⟩
        by_cases hb : b = x.cfg.terminator
        · exact .trailing (by simp [hb]) got hbody (by rw [hb, taken.model.cfg])
            { unreported with flags := { unreported.flags with } }
        · refine .scanning (by simp [hb]) (fun a ha => ?_) { unreported with flags := { unreported.flags with } }
          obtain ha | ha := List.mem_append.mp ha
          · exact hbody a ha
          · rw [List.mem_singleton.mp ha, ← taken.model.cfg]
            exact hb
      | trailing hst body hbody hgot =>
        refine ⟨_, got ++ [b], next _ (.frame hst b rest hq hroom),
          { stored with loop := { stored.loop with }, transmit := { stored.transmit with }, model := { stored.model with } }, ?_⟩
        refine .reported rfl ?_ { unreported.flags with } rfl stored.count (by rw [← unreported.events]; rfl)
        have whole := splitFrame_of_body hbody b []
        simpa [hgot] using whole
      | reported hst => simp [hst, isRecv] at hrecv
      | overrun hst => simp [hst, isRecv] at hrecv

end

/-! ## The operation -/

/-- What every cycle in the given states keeps, from one cycle to the next, a bounded run keeps, and it is a run of known
cycles. -/
theorem runWhile_reaches {busy : St → Bool} {P : Nat → State → Prop}
    (step : ∀ c u, P c u → busy u.st = true → ∃ v, clock u = .ok v ∧ P (c + 1) v) (fuel : Nat) {c : Nat} {u : State}
    (hu : P c u) : ∃ k t, runWhile busy fuel u = .ok t ∧ Run busy k u t ∧ P (c + k) t := by
  induction fuel generalizing c u with
  | zero => exact ⟨0, u, rfl, .refl u, hu⟩
  | succ fuel ih =>
    cases hs : busy u.st with
    | false => exact ⟨0, u, runWhile_idle hs _, .refl u, hu⟩
    | true =>
      obtain ⟨v, hv, hPv⟩ := step c u hu hs
      obtain ⟨k, t, hrun, run, ht⟩ := ih hPv
      refine ⟨k + 1, t, ?_, .step hs hv run, by rwa [Nat.add_right_comm] at ht⟩
      rw [runWhile_busy hs, hv]
      exact hrun

/-- The state in which RECV_FRAME begins to accumulate, after a poll that heard a byte in its cycle `p + 1` (R92). -/
structure ScanBegins (s : State) (p : Nat) (w : State) : Prop where
  st : w.st = .rfScan
  rxCount : w.rxCount = 0
  heard : heardBy (s.cfg.cRxSettle + 3 + p) s = [] ++ w.rxQueue
  inputs : w.inputs = s.inputs.drop (s.cfg.cRxSettle + 3 + p)
  timer : w.timer = s.cfg.cTimeout - p
  events : w.events = s.events
  rfStatus : w.rfStatus = s.rfStatus
  rfLen : w.rfLen = s.rfLen
  rxAt : ∀ a, w.rxAt a = s.rxAt a
  flags : KeepsFaultFlags s w
  loop : KeepsLoop s w
  transmit : KeepsTransmit s w
  model : KeepsModel s w

section
variable {s : State} {p : Nat}

theorem run_to_scan (noReset : NoReset s) (hears : PollHears s p) :
    ∃ w, Run isRecv (s.cfg.cRxSettle + 1 + (p + 1)) (receiving s) w ∧ ScanBegins s p w := by
  obtain ⟨window, silence, first⟩ := hears
  obtain ⟨u, o, settle, hu⟩ := run_to_poll noReset
  have heard : ∀ n, heardBy (s.cfg.cRxSettle + 2 + n) s = [] ++ heardBy n u :=
    heardBy_after (by rw [hu]; rfl) (by rw [hu]; rfl) (by rw [hu]; rfl)
  have cycles : s.cfg.cRxSettle + 2 + (p + 1) = s.cfg.cRxSettle + 3 + p := by omega
  have silent : p = 0 ∨ heardBy p u = [] := silence.imp_right fun h => by simpa [h] using (heard p).symm
  have byte : heardBy (p + 1) u = heardBy (s.cfg.cRxSettle + 3 + p) s := by rw [← cycles, heard, List.nil_append]
  have noResetU : NoReset u := allInputs_drop noReset (k := s.cfg.cRxSettle + 2) (by rw [hu]; rfl) (by rw [hu]; rfl)
  obtain ⟨w, o', poll, hw⟩ := run_poll_heard (s := u) (busy := isRecv) (p := p) (by rw [hu]; rfl) rfl noResetU
    (by rw [hu]; exact window) silent (byte ▸ first)
  have inputs : u.inputs.drop (p + 1) = s.inputs.drop (s.cfg.cRxSettle + 3 + p) := by
    rw [hu, State.waited_inputs, List.drop_drop, cycles]
  rw [byte, inputs] at hw
  refine ⟨w, settle.trans poll, ?_⟩
  subst hw hu
  exact ⟨rfl, rfl, rfl, rfl, rfl, rfl, rfl, rfl, fun _ => rfl, ⟨rfl, rfl, rfl⟩, ⟨rfl, rfl, rfl, rfl⟩,
    ⟨rfl, rfl, rfl, rfl, fun _ => rfl, rfl⟩, ⟨rfl, rfl, rfl, rfl, rfl, rfl⟩⟩

/-- It has taken nothing yet. -/
theorem ScanBegins.reception {w : State} (begins : ScanBegins s p w) : Reception w 0 [] w where
  taken := ⟨heardBy_zero w, rfl, begins.rxCount, Nat.zero_le _, rfl, fun _ _ => rfl, rfl, ⟨rfl, rfl, rfl, rfl⟩,
    ⟨rfl, rfl, rfl, rfl, fun _ => rfl, rfl⟩, ⟨rfl, rfl, rfl, rfl, rfl, rfl⟩⟩
  phase := .scanning begins.st (by simp) ⟨⟨rfl, rfl, rfl⟩, rfl, rfl, rfl⟩

/-- What the line gives is heard in order, before the reception and in it. -/
theorem ScanBegins.heardBy {w : State} (begins : ScanBegins s p w) (n : Nat) :
    heardBy (s.cfg.cRxSettle + 3 + p + n) s = Machine.heardBy n w :=
  heardBy_after begins.heard begins.inputs begins.model.held n

/-- A reception that waits for a byte that does not come has taken all that is ever heard. -/
theorem Reception.all_taken {w u : State} {c : Nat} {got : List Byte} (rec : Reception w c got u)
    (hrecv : isRecv u.st = true) (hnil : u.inputs = []) (waits : WaitsIn u.held u) (n : Nat) : Machine.heardBy n w <+: got := by
  have hst : awaitsByte u.st = true := by
    cases rec.phase with
    | scanning hst | trailing hst => simp [hst, awaitsByte]
    | reported hst | overrun hst => simp [hst, isRecv] at hrecv
  have missing : u.rxQueue ++ u.held.rx = [] := by
    have h := waits.missing
    obtain hst | hst | hst := (awaitsByte_iff u.st).mp hst <;> simpa [waitingIn, hst] using h
  obtain ⟨hq, hrx⟩ := List.append_eq_nil_iff.mp missing
  have silent : SilentLine u := ⟨hrx, by simp [hnil]⟩
  have all : Machine.heardBy (c + n) w = got := by
    rw [heardBy_after rec.taken.heard rec.taken.inputs rec.taken.model.held, silent.heardBy, hq, List.append_nil]
  exact all ▸ heardBy_prefix w (Nat.le_add_left n c)

/-- RECV_FRAME with a byte in the poll window answers a state of its reception, and one that is still in the RECV_FRAME states
has taken all that is ever heard. -/
theorem exec_recvFrame_reception (hst : s.st = .stopped) (noReset : NoReset s) (hstart : s.thisInput.start = false)
    (hears : PollHears s p) :
    ∃ w t k got, ScanBegins s p w ∧ Reception w k got t ∧ exec .recvFrame s = .next t ∧
      (clockOn { s.thisInput with recvCmd := true } s).bind (clocks (s.cfg.cRxSettle + 2 + p + k)) = .ok t ∧
      (isRecv t.st = true → ∀ n, Machine.heardBy n s <+: got) := by
  obtain ⟨w, toScan, begins⟩ := run_to_scan noReset hears
  have noResetW : NoReset w := allInputs_drop noReset begins.model.held begins.inputs
  have step : ∀ c u, (∃ got, Reception w c got u) → isRecv u.st = true →
      ∃ v, clock u = .ok v ∧ ∃ got, Reception w (c + 1) got v := by
    rintro c u ⟨got, rec⟩ hrecv
    obtain ⟨v, got', hv, rec'⟩ := rec.clock (allInputs_drop noResetW rec.taken.model.held rec.taken.inputs) hrecv
    exact ⟨v, hv, got', rec'⟩
  obtain ⟨f, hf⟩ : ∃ f, operationFuel s = s.cfg.cRxSettle + 1 + (p + 1) + f := by
    refine Nat.exists_eq_add_of_le ?_
    have window := hears.window
    unfold operationFuel operationBound
    omega
  obtain ⟨k, t, hrun, run, got, rec⟩ := runWhile_reaches step f ⟨[], begins.reception⟩
  rw [Nat.zero_add] at rec
  have ends : runWhile isRecv (operationFuel s) (receiving s) = .ok t := by rw [hf, toScan.runWhile, hrun]
  refine ⟨w, t, k, got, begins, rec, ?_, ?_, fun hrecv n => ?_⟩
  · rw [exec_recvFrame hst noReset hstart, ends, answer]
  · rw [clockOn_recvCmd hst noReset hstart, show s.cfg.cRxSettle + 2 + p + k = s.cfg.cRxSettle + 1 + (p + 1) + k by omega]
    exact (toScan.trans run).clocks
  · obtain ⟨hnil, waits⟩ := runWhile_ends_or_waits active_of_isRecv (enough_receiving s) ends hrecv
    have later := rec.all_taken hrecv hnil waits n
    rw [← begins.heardBy] at later
    exact (heardBy_prefix s (Nat.le_add_left n _)).trans later

variable {w t : State} {k : Nat} {got : List Byte}

/-- The bytes taken and those heard by any cycle begin one stream. -/
theorem ScanBegins.common_stream (begins : ScanBegins s p w) (rec : Reception w k got t) (n : Nat) :
    ∃ stream, got ++ t.rxQueue <+: stream ∧ Machine.heardBy n s <+: stream := by
  refine ⟨Machine.heardBy (max (s.cfg.cRxSettle + 3 + p + k) n) s, ?_, heardBy_prefix s (le_max_right _ _)⟩
  rw [← rec.taken.heard, ← begins.heardBy]
  exact heardBy_prefix s (le_max_left _ _)

/-- Where the line stands after the reception's cycles, counted from the pulse. -/
theorem ScanBegins.line_after (begins : ScanBegins s p w) (taken : Taken w k got t) :
    t.inputs = s.inputs.drop (s.cfg.cRxSettle + 2 + p + k + 1) ∧
      Machine.heardBy (s.cfg.cRxSettle + 2 + p + k + 1) s = got ++ t.rxQueue := by
  rw [show s.cfg.cRxSettle + 2 + p + k + 1 = s.cfg.cRxSettle + 3 + p + k by omega]
  exact ⟨by rw [taken.inputs, begins.inputs, List.drop_drop], by rw [begins.heardBy, taken.heard]⟩

theorem ScanBegins.cfg_eq (begins : ScanBegins s p w) : w.cfg = s.cfg := begins.model.cfg

/-- A reported frame is the one the line gives. -/
theorem reported_eq (begins : ScanBegins s p w) (rec : Reception w k got t)
    (whole : splitFrame w.cfg got = some (got, [])) {n : Nat} {frame rest : List Byte}
    (hsplit : splitFrame s.cfg (Machine.heardBy n s) = some (frame, rest)) : got = frame := by
  obtain ⟨stream, hgot, hheard⟩ := begins.common_stream rec n
  obtain ⟨_, hg⟩ := splitFrame_of_prefix (begins.cfg_eq ▸ whole) ((List.prefix_append _ _).trans hgot)
  obtain ⟨_, hf⟩ := splitFrame_of_prefix hsplit ((frame_prefix hsplit).trans hheard)
  rw [hg, Option.some.injEq, Prod.mk.injEq] at hf
  exact hf.1

/-- While no frame is whole among the bytes taken, the line's frame is longer than they are. -/
theorem unfinished_length_lt (begins : ScanBegins s p w) (rec : Reception w k got t)
    (unfinished : splitFrame w.cfg got = none) {n : Nat} {frame rest : List Byte}
    (hsplit : splitFrame s.cfg (Machine.heardBy n s) = some (frame, rest)) : got.length < frame.length := by
  by_contra hlong
  obtain ⟨stream, hgot, hheard⟩ := begins.common_stream rec n
  have inside : frame <+: got := List.prefix_of_prefix_length_le ((frame_prefix hsplit).trans hheard)
    ((List.prefix_append _ _).trans hgot) (not_lt.mp hlong)
  obtain ⟨_, hf⟩ := splitFrame_of_prefix hsplit inside
  rw [begins.cfg_eq, hf] at unfinished
  cases unfinished

end

/-- Settles O41: the reception ends, for its bytes come; it is no overrun, for the frame fits; so the frame is reported, and it
is the line's. -/
theorem recvFrameReturnsFrame : Obligations.RecvFrameReturnsFrame := by
  unfold Obligations.RecvFrameReturnsFrame
  intro s p heard frame rest hst noReset hstart hears hsplit hfits
  obtain ⟨w, t, k, got, begins, rec, ends, clocked, allTaken⟩ := exec_recvFrame_reception hst noReset hstart hears
  have going : isRecv t.st = true → splitFrame w.cfg got = none → False := fun hrecv hnone =>
    (unfinished_length_lt begins rec hnone hsplit).not_ge
      (((frame_prefix hsplit).trans (allTaken hrecv heard)).length_le)
  have taken := rec.taken
  cases rec.phase with
  | scanning hend hbody => exact absurd (splitFrame_no_terminator hbody) (going (by rw [hend]; rfl))
  | trailing hend body hbody hgot =>
    exact absurd (hgot ▸ splitFrame_open hbody) (going (by rw [hend]; rfl))
  | overrun hend hnone hfull =>
    refine absurd (unfinished_length_lt begins rec hnone hsplit) (not_lt.mpr ?_)
    rw [hfull, begins.cfg_eq]
    exact hfits
  | reported hend whole flags hstatus hlen hevents =>
    obtain rfl := reported_eq begins rec whole hsplit
    obtain ⟨inputs, stream⟩ := begins.line_after taken
    exact ⟨t, _, ends, hend, hstatus, hlen, taken.count, taken.stored, stream,
      fun a ha => (taken.above a ha).trans (begins.rxAt a), hevents.trans (begins.events ▸ rfl),
      taken.timer.trans begins.timer, inputs, clocked, begins.flags.trans flags, begins.loop.trans taken.loop,
      begins.transmit.trans taken.transmit, begins.model.trans taken.model⟩

/-- Settles O44: the reception ends, for more bytes come than fit; it reports no frame, for none of them fits; so it is an
overrun. -/
theorem recvFrameOverruns : Obligations.RecvFrameOverruns := by
  unfold Obligations.RecvFrameOverruns
  intro s p heard hst noReset hstart hears hmany hlong
  obtain ⟨w, t, k, got, begins, rec, ends, clocked, allTaken⟩ := exec_recvFrame_reception hst noReset hstart hears
  have taken := rec.taken
  have fits : got.length ≤ s.cfg.rxCapacity := begins.cfg_eq ▸ taken.fits
  have going : ¬isRecv t.st = true := fun hrecv =>
    absurd ((allTaken hrecv heard).length_le.trans fits) (not_le.mpr hmany)
  have early : got <+: heardBy heard s := by
    obtain ⟨stream, hgot, hheard⟩ := begins.common_stream rec heard
    exact List.prefix_of_prefix_length_le ((List.prefix_append _ _).trans hgot) hheard (fits.trans hmany.le)
  cases rec.phase with
  | scanning hend | trailing hend => exact absurd (by rw [hend]; rfl) going
  | reported hend whole =>
    obtain ⟨_, hsplit⟩ := splitFrame_of_prefix (begins.cfg_eq ▸ whole) early
    exact absurd fits (not_le.mpr (hlong _ _ hsplit))
  | overrun hend hnone hfull hmore hfault hcode hstarted hstatus hlen hevents =>
    rw [begins.cfg_eq] at hfull
    obtain ⟨inputs, stream⟩ := begins.line_after taken
    exact ⟨t, _, ends, hend, hfault, hcode, hfull ▸ taken.count,
      by rw [← hfull, taken.stored]; exact List.prefix_iff_eq_take.mp early, by rw [stream, ← hfull, List.drop_left], hmore, fun a ha => (taken.above a (hfull ▸ ha)).trans (begins.rxAt a),
      hstatus.trans begins.rfStatus, hlen.trans begins.rfLen, hevents.trans begins.events,
      hstarted.trans begins.flags.startFailed, taken.timer.trans begins.timer, inputs, clocked,
      begins.loop.trans taken.loop, begins.transmit.trans taken.transmit, begins.model.trans taken.model⟩

end Sys2Proof.Machine
end

section
/-! PROOFS of TRANSMIT (R99 to R111): what has been sent and stored at every point of a frame, as an invariant of its cycles. -/

namespace Sys2Proof.Machine

/-! ## Frames in `txbuf` -/

theorem txFrame_succ (s : State) (n : Nat) : s.txFrame (n + 1) = s.txFrame n ++ [s.txAt n] := by
  simp [State.txFrame, List.range_succ]

theorem txFrame_congr {s t : State} {n : Nat} (h : ∀ a, a < n → t.txAt a = s.txAt a) : t.txFrame n = s.txFrame n :=
  List.map_congr_left fun a ha => h a (List.mem_range.mp ha)

theorem byteSum_concat (bytes : List Byte) (b : Byte) : byteSum (bytes ++ [b]) = byteSum bytes + b := by
  simp [byteSum]

/-! ## A frame being sent -/

/-- The whole frame of `b` has been sent, and its checksum stands in its slot (R104, R109). -/
structure Sent (b : State) (n : Nat) (u : State) : Prop where
  last : u.idx + 1 = n
  csum : u.csum = byteSum (b.txFrame (n - 1))
  stream : u.txStream = b.txStream ++ respFrame (b.txFrame (n - 1))
  slot : u.txAt (n - 1) = byteSum (b.txFrame (n - 1))
  others : ∀ a, a + 1 ≠ n → u.txAt a = b.txAt a

/-- The first `k` bytes of the payload of `b` have been sent and summed, and `txbuf` is as it was (R104). -/
structure SentBytes (b : State) (k : Nat) (u : State) : Prop where
  csum : u.csum = byteSum (b.txFrame k)
  stream : u.txStream = b.txStream ++ b.txFrame k
  txAt : ∀ a, u.txAt a = b.txAt a

/-- Where the sending of the `n` bytes of `b` stands (R103 to R106). -/
inductive SendPhase (b : State) (n : Nat) (u : State) : Prop where
  | settling (hst : u.st = .txSettle) (stream : u.txStream = b.txStream) (txAt : ∀ a, u.txAt a = b.txAt a)
  | byte (hst : u.st = .txByte) (hidx : u.idx < n) (sent : SentBytes b u.idx u)
  | gap (hst : u.st = .txGap) (hidx : u.idx + 1 < n) (sent : SentBytes b (u.idx + 1) u)
  | lastGap (hst : u.st = .txGap) (sent : Sent b n u)
  | draining (hst : u.st = .txDrain) (sent : Sent b n u)
  | finished (hst : u.st = .top) (sent : Sent b n u)

/-- The sending of the `n` bytes of `b`: nothing but the transmit registers, `txbuf`, the TX stream and the timer has changed. -/
structure Sending (b : State) (n : Nat) (u : State) : Prop where
  len : u.len = n
  events : u.events = b.events
  flags : KeepsFaultFlags b u
  loop : KeepsLoop b u
  receive : KeepsReceive b u
  model : KeepsModel b u
  phase : SendPhase b n u

section
variable {b u : State} {n : Nat}

theorem beginTransmit_sending (n : Nat) (b : State) : Sending b n (beginTransmit n b) where
  len := rfl
  events := rfl
  flags := ⟨rfl, rfl, rfl⟩
  loop := ⟨rfl, rfl, rfl, rfl⟩
  receive := ⟨rfl, rfl, rfl, fun _ => rfl⟩
  model := ⟨rfl, rfl, rfl, rfl, rfl, rfl⟩
  phase := .settling rfl rfl fun _ => rfl

/-- A frame stays where it is when only the timer and the environment's side change: a cycle that begins, or ticks. -/
theorem Sending.waited (sending : Sending b n u) (timer : Nat) (inputs : List CycleIn) (queue : List Byte)
    (o : CycleOut) : Sending b n (u.waited timer inputs queue o) where
  len := sending.len
  events := sending.events
  flags := { sending.flags with }
  loop := { sending.loop with }
  receive := { sending.receive with }
  model := { sending.model with }
  phase := by
    cases sending.phase with
    | settling hst stream txAt => exact .settling hst stream txAt
    | byte hst hidx sent => exact .byte hst hidx { sent with }
    | gap hst hidx sent => exact .gap hst hidx { sent with }
    | lastGap hst sent => exact .lastGap hst { sent with }
    | draining hst sent => exact .draining hst { sent with }
    | finished hst sent => exact .finished hst { sent with }

/-- The fields outside a frame's phase carry over to a state that differs in the transmit registers, `txbuf`, the streams, the
timer and the wires. -/
theorem Sending.go_on (sending : Sending b n u) {st : St} {timer idx drainRem : Nat} {csum : Byte} {txbuf : Memory}
    {outs : CycleOut} {rxQueue txStream : List Byte}
    (phase : SendPhase b n { u with
      st := st, timer := timer, idx := idx, csum := csum, drainRem := drainRem, txbuf := txbuf, outs := outs,
      rxQueue := rxQueue, txStream := txStream }) :
    Sending b n { u with
      st := st, timer := timer, idx := idx, csum := csum, drainRem := drainRem, txbuf := txbuf, outs := outs,
      rxQueue := rxQueue, txStream := txStream } where
  len := sending.len
  events := sending.events
  flags := { sending.flags with }
  loop := { sending.loop with }
  receive := { sending.receive with }
  model := { sending.model with }
  phase := phase

/-- A payload byte is sent (R104). -/
theorem SentBytes.send {k : Nat} {v : State} (sent : SentBytes b k u) (hcsum : v.csum = u.csum + u.txAt k)
    (hstream : v.txStream = u.txStream ++ [u.txAt k]) (hbuf : v.txbuf = u.txbuf) : SentBytes b (k + 1) v where
  csum := by rw [hcsum, sent.csum, sent.txAt, txFrame_succ, byteSum_concat]
  stream := by rw [hstream, sent.stream, sent.txAt, txFrame_succ, List.append_assoc]
  txAt := fun a => (txAt_congr hbuf a).trans (sent.txAt a)

/-- The checksum is sent (R104, R109). -/
theorem SentBytes.send_checksum {k : Nat} {v : State} (sent : SentBytes b k u) (hk : k + 1 = n) (hidx : v.idx = k)
    (hcsum : v.csum = u.csum) (hstream : v.txStream = u.txStream ++ [u.csum])
    (hbuf : v.txbuf = u.txbuf.write k u.csum) : Sent b n v := by
  obtain rfl : k = n - 1 := by omega
  exact
    { last := by rw [hidx, hk]
      csum := by rw [hcsum, sent.csum]
      stream := by rw [hstream, sent.stream, sent.csum, respFrame, List.append_assoc]
      slot := by rw [State.txAt, hbuf, read_write_same, Option.getD_some, sent.csum]
      others := fun a ha => (txAt_write_ne hbuf rfl (by omega)).trans (sent.txAt a) }

/-- A timed wait of a frame ticks (R102, R105). -/
theorem Sending.tick (sending : Sending b n u) (hst : countsDown u.st = true) (silent : ¬listens u.st = true)
    (ht : 0 < u.timer) (i : CycleIn) : ∃ v, Move i u v ∧ Sending b n v :=
  ⟨_, .tick hst (fun h => absurd h silent) ht, sending.waited (u.timer - 1) u.inputs u.rxQueue u.outs⟩

/-- The sending of a frame that fits makes one of its transitions in every cycle of the TRANSMIT states. -/
theorem Sending.move (sending : Sending b n u) (hn : 1 ≤ n) (hfits : n ≤ b.cfg.txCapacity)
    (hbusy : isTransmit u.st = true) (i : CycleIn) : ∃ v, Move i u v ∧ Sending b n v := by
  have len := sending.len
  have inside : ∀ {k}, k < n → k < u.cfg.txCapacity := fun hk => sending.model.cfg ▸ hk.trans_le hfits
  cases sending.phase with
  | settling hst stream txAt =>
    obtain ht | ht := Nat.eq_zero_or_pos u.timer
    · exact ⟨_, .settled hst ht (by omega), sending.go_on (.byte rfl hn ⟨rfl, by simpa [State.txFrame] using stream, txAt⟩)⟩
    · exact sending.tick (by simp [hst, countsDown]) (by simp [hst, listens]) ht i
  | byte hst hidx sent =>
    cases hready : i.txReady with
    | false => exact ⟨u, .stall hst hready, sending⟩
    | true =>
      by_cases hlast : u.idx + 1 = u.len
      · exact ⟨_, .sendChecksum hst hready hlast (inside hidx),
          sending.go_on (.lastGap rfl (sent.send_checksum (by omega) rfl rfl rfl rfl))⟩
      · exact ⟨_, .sendByte hst hready hlast (inside hidx),
          sending.go_on (.gap rfl (show u.idx + 1 < n by omega) (sent.send rfl rfl rfl))⟩
  | gap hst hidx sent =>
    obtain ht | ht := Nat.eq_zero_or_pos u.timer
    · exact ⟨_, .nextByte hst ht (by omega), sending.go_on (.byte rfl hidx { sent with })⟩
    · exact sending.tick (by simp [hst, countsDown]) (by simp [hst, listens]) ht i
  | lastGap hst sent =>
    obtain ht | ht := Nat.eq_zero_or_pos u.timer
    · exact ⟨_, .sent hst ht (by rw [sent.last, len]), sending.go_on (.draining rfl { sent with })⟩
    · exact sending.tick (by simp [hst, countsDown]) (by simp [hst, listens]) ht i
  | draining hst sent =>
    by_cases hend : u.drainRem = 0 ∨ u.rxQueue = []
    · exact ⟨_, .drained hst hend, sending.go_on (.finished rfl { sent with })⟩
    · obtain ⟨hrem, hq⟩ := not_or.mp hend
      exact ⟨_, .drain hst (Nat.pos_of_ne_zero hrem) hq, sending.go_on (.draining hst { sent with })⟩
  | finished hst => simp [hst, isTransmit] at hbusy

/-- So does every cycle without reset. -/
theorem Sending.clock (sending : Sending b n u) (hn : 1 ≤ n) (hfits : n ≤ b.cfg.txCapacity)
    (hbusy : isTransmit u.st = true) (noReset : NoReset u) : ∃ v, Machine.clock u = .ok v ∧ Sending b n v := by
  have begun : Sending b n (beginCycle u.thisInput u) := sending.waited u.timer _ _ _
  obtain ⟨v, move, sending'⟩ := begun.move hn hfits hbusy u.thisInput
  exact ⟨v, clock_of_move noReset move, sending'⟩

/-- What a frame that has been sent leaves in `txbuf` is what was sent (R109). -/
theorem Sent.txFrame_eq (sent : Sent b n u) : u.txFrame n = respFrame (b.txFrame (n - 1)) := by
  obtain ⟨k, rfl⟩ : ∃ k, n = k + 1 := ⟨u.idx, sent.last.symm⟩
  have slot : u.txAt k = byteSum (b.txFrame k) := sent.slot
  rw [txFrame_succ, slot, txFrame_congr fun a ha => sent.others a (by omega)]
  rfl

/-- A frame whose sending has left the TRANSMIT states has been sent. -/
theorem Sending.of_left (sending : Sending b n u) (hend : isTransmit u.st = false) : u.st = .top ∧ Sent b n u := by
  cases sending.phase with
  | finished hst sent => exact ⟨hst, sent⟩
  | settling hst | byte hst | gap hst | lastGap hst | draining hst => simp [hst, isTransmit] at hend

end

/-! ## The run of a frame -/

section
variable {busy : St → Bool} {k : Nat} {s t : State}

/-- A run takes the ports of its cycles. -/
theorem Run.inputs (run : Run busy k s t) : t.inputs = s.inputs.drop k := by
  induction run with
  | refl => rfl
  | step _ hclock _ ih => rw [ih, clockOn_inputs hclock, List.drop_tail]

theorem Run.keepsModel (run : Run busy k s t) : KeepsModel s t := by
  induction run with
  | refl s => exact .refl s
  | step _ hclock _ ih => exact (clockOn_keepsModel hclock).trans ih

theorem Run.allInputs {p : CycleIn → Prop} (run : Run busy k s t) (h : allInputs p s) : Machine.allInputs p t :=
  allInputs_drop h run.keepsModel.held run.inputs

end

section
variable {b w : State} {n : Nat}

/-- With a transport that is ready in the end, a frame that fits is sent and drained (R99, R163); what each of its cycles keeps
holds then. -/
theorem Sending.run {P : Nat → State → Prop} (sending : Sending b n w) (hn : 1 ≤ n) (hfits : n ≤ b.cfg.txCapacity)
    (noReset : NoReset w) (ready : w.held.txReady = true) {c : Nat} (start : P c w)
    (keeps : ∀ c u v, P c u → Sending b n v → NoReset u → isTransmit u.st = true → Machine.clock u = .ok v → P (c + 1) v) :
    ∃ k t, Run isTransmit k w t ∧ t.st = .top ∧ Sent b n t ∧ Sending b n t ∧ P (c + k) t := by
  have step : ∀ c u, (Sending b n u ∧ NoReset u ∧ P c u) → isTransmit u.st = true →
      ∃ v, Machine.clock u = .ok v ∧ Sending b n v ∧ NoReset v ∧ P (c + 1) v := by
    rintro c u ⟨hu, hreset, hP⟩ hbusy
    obtain ⟨v, hv, sending'⟩ := hu.clock hn hfits hbusy hreset
    exact ⟨v, hv, sending', allInputs_clockOn hreset hv, keeps c u v hP sending' hreset hbusy hv⟩
  obtain ⟨k, t, ends, run, ht, -, hP⟩ := runWhile_reaches step (w.inputs.length + cyclesLeft w) ⟨sending, noReset, start⟩
  have hend : isTransmit t.st = false := by
    refine Bool.eq_false_iff.mpr fun hbusy => ?_
    obtain ⟨-, waits⟩ := runWhile_ends_or_waits active_of_isTransmit (.inl le_rfl) ends hbusy
    have ready' : t.held.txReady = true := run.keepsModel.held ▸ ready
    have missing := waits.missing
    cases hst : t.st <;> simp [hst, isTransmit, waitingIn, ready'] at hbusy missing
  obtain ⟨hst, sent⟩ := ht.of_left hend
  exact ⟨k, t, run, hst, sent, ht, hP⟩

/-- The same, of the frame alone. -/
theorem Sending.run_to_top (sending : Sending b n w) (hn : 1 ≤ n) (hfits : n ≤ b.cfg.txCapacity) (noReset : NoReset w)
    (ready : w.held.txReady = true) : ∃ k t, Run isTransmit k w t ∧ t.st = .top ∧ Sent b n t ∧ Sending b n t := by
  obtain ⟨k, t, run, hend, sent, ended, -⟩ := sending.run (P := fun _ _ => True) (c := 0) hn hfits noReset ready trivial
    fun _ _ _ _ _ _ _ _ => trivial
  exact ⟨k, t, run, hend, sent, ended⟩

end
end Sys2Proof.Machine
end

section
/-! PROOFS of the operation TRANSMIT (R99 to R111): its invoking cycle, the frame it sends, what it drains and its timing. -/

namespace Sys2Proof.Machine

/-! ## The invoking cycle -/

/-- A count within a capacity fits the width of a length (R8, R63). -/
theorem lenPort_of_le {c : Config} {v : Nat} (h : v ≤ c.txCapacity) : lenPort c v = v :=
  Nat.mod_eq_of_lt (lt_of_le_of_lt (h.trans (le_max_left _ _)) Nat.lt_log2_self)

section
variable {s t : State} {n : Nat}

/-- The state in which the builder's write of the invoking cycle is applied and TRANSMIT begins. -/
def invoked (s : State) : State := { beginCycle s.thisInput s with txbuf := builtBuf s.thisInput s }

theorem invoked_txAt (s : State) (a : Nat) : (invoked s).txAt a = (buildWrite s.thisInput s).txAt a := by
  rw [buildWrite_eq]
  rfl

theorem invoked_noReset (noReset : NoReset s) (n : Nat) : NoReset (beginTransmit n (invoked s)) :=
  allInputs_drop noReset (k := 1) rfl List.drop_one.symm

/-- The cycle that invokes TRANSMIT (R127). -/
theorem clockOn_bldDone (hst : s.st = .build) (noReset : NoReset s) (inside : WritesInside s.thisInput s) {m : Nat}
    (hlen : lenPort s.cfg m = n) (hfits : n ≤ s.cfg.txCapacity) :
    clockOn { s.thisInput with bldDone := true, bldLen := m } s = .ok (beginTransmit n (invoked s)) := by
  have low : ({ s.thisInput with bldDone := true, bldLen := m } : CycleIn).rst = false := noReset.thisInput
  subst hlen
  exact (clockOn_ok_iff low).mpr (.built hst inside rfl hfits)

/-- TRANSMIT in `BUILD` is the run behind that cycle. -/
theorem exec_transmit_of_run {k : Nat} (hst : s.st = .build) (noReset : NoReset s) (inside : WritesInside s.thisInput s)
    (hlen : transmitLength s = n) (hfits : n ≤ s.cfg.txCapacity)
    (run : Run isTransmit k (beginTransmit n (invoked s)) t) (hend : isTransmit t.st = false) :
    exec .transmit s = .next t := by
  have enough : Enough (operationFuel s) (beginTransmit n (invoked s)) :=
    enough_operationFuel rfl (by simp [invoked])
      (cyclesLeft_le_operationBound (cPostRecv_le_maxDelay s.cfg) (fun _ => hfits) nofun)
  refine answer_next.mpr ?_
  rw [clockOn_bldDone hst noReset inside hlen hfits, Except.bind]
  exact run.runWhile_eq active_of_isTransmit enough hend

end

/-- Settles O46: the frame is sent whole, and its checksum is the unsigned sum. -/
theorem transmitSendsFrame : Obligations.TransmitSendsFrame := by
  unfold Obligations.TransmitSendsFrame
  intro s built n sum hst noReset ready inside hbuilt hlen hn hfits hsum
  have sending := beginTransmit_sending n (invoked s)
  obtain ⟨k, t, run, hend, sent, ended⟩ :=
    sending.run_to_top hn hfits (invoked_noReset noReset n) ready
  have answers := exec_transmit_of_run hst noReset inside hlen hfits run (by rw [hend]; rfl)
  have same : (invoked s).txFrame (n - 1) = built.txFrame (n - 1) :=
    txFrame_congr fun a _ => hbuilt ▸ invoked_txAt s a
  have others : ∀ a, a + 1 ≠ n → t.txAt a = built.txAt a := fun a ha =>
    (sent.others a ha).trans (hbuilt ▸ invoked_txAt s a)
  have checksum : byteSum ((invoked s).txFrame (n - 1)) = sum := by rw [same, byteSum_eq_ofNat, hsum]
  have framed : respFrame ((invoked s).txFrame (n - 1)) = built.txFrame (n - 1) ++ [sum] := by
    rw [respFrame, checksum, same]
  refine ⟨t, answers, hend, ?_, sent.txFrame_eq.trans framed, others, ended.len, sent.last, sent.csum.trans checksum, ended.events,
    { ended.flags with }, { ended.loop with }, { ended.receive with }, { ended.model with }⟩
  rw [sent.stream, framed]
  rfl

/-! ## The drain -/

/-- `given` is the bytes of `line` and of `echoed`, each in order and each once (R33, entry 8). -/
structure Mixed (line echoed given : List Byte) : Prop where
  line_sublist : line.Sublist given
  echoed_sublist : echoed.Sublist given
  perm : given.Perm (line ++ echoed)

theorem Mixed.append {line echoed given : List Byte} (h : Mixed line echoed given) (more echo : List Byte) :
    Mixed (line ++ more) (echoed ++ echo) (given ++ (more ++ echo)) where
  line_sublist := h.line_sublist.append (List.sublist_append_left more echo)
  echoed_sublist := h.echoed_sublist.append (List.sublist_append_right more echo)
  perm := List.perm_iff_count.mpr fun b => by
    have before := List.perm_iff_count.mp h.perm b
    simp only [List.count_append] at before ⊢
    omega

/-- Nothing echoed: what is given is the line's. -/
theorem Mixed.eq_line {line given : List Byte} (h : Mixed line [] given) : given = line :=
  (h.line_sublist.eq_of_length (by simpa using h.perm.length_eq.symm)).symm

/-- How many bytes the TRANSMIT of `n` bytes still takes off the queue at most (R105, R106). -/
def leftToDrain (n : Nat) (s : State) : Nat :=
  match s.st with
  | .txDrain | .top => s.drainRem
  | _ => n

section
variable {i : CycleIn} {s t : State} {n : Nat}

/-- In the TRANSMIT states a transition drains one byte, or adds the echo of what it sends and drains none. -/
theorem Move.drains_or_echoes (move : Move i s t) (hbusy : isTransmit s.st = true) (hlen : s.len = n) :
    (∃ b, s.rxQueue = b :: t.rxQueue ∧ t.txStream = s.txStream ∧ leftToDrain n t + 1 = leftToDrain n s) ∨
      ∃ sent, t.txStream = s.txStream ++ sent ∧ t.rxQueue = s.rxQueue ++ (if s.echo then sent else []) ∧
        leftToDrain n t = leftToDrain n s := by
  have still : t.txStream = s.txStream → t.rxQueue = s.rxQueue → leftToDrain n t = leftToDrain n s →
      ∃ sent, t.txStream = s.txStream ++ sent ∧ t.rxQueue = s.rxQueue ++ (if s.echo then sent else []) ∧
        leftToDrain n t = leftToDrain n s := fun hs hq hl => ⟨[], by simp [hs], by simp [hq], hl⟩
  cases move with
  | tick | stall => exact .inr (still rfl rfl rfl)
  | settledEmpty hst _ hempty => exact .inr (still rfl rfl (by simp [leftToDrain, hst, ← hlen, hempty]))
  | settled hst | nextByte hst => exact .inr (still rfl rfl (by simp [leftToDrain, hst]))
  | sent hst => exact .inr (still rfl rfl (by simp [leftToDrain, hst, hlen]))
  | drained hst => exact .inr (still rfl rfl (by simp [leftToDrain, hst]))
  | sendChecksum hst | sendByte hst =>
    exact .inr ⟨_, rfl, by cases hs : s.echo <;> simp [hs], by simp [leftToDrain, hst]⟩
  | drain hst hrem hq =>
    obtain ⟨b, rest, hq⟩ := List.exists_cons_of_ne_nil hq
    exact .inl ⟨b, by simp [hq], rfl, by simpa [leftToDrain, hst] using Nat.sub_add_cancel hrem⟩
  | hold hst =>
    obtain h | h | h := (awaitsByte_iff s.st).mp hst <;> simp [h, isTransmit] at hbusy
  | fault _ cause => obtain h | h | h := cause.raisedIn <;> simp [h, isTransmit] at hbusy
  | enterLoop hst | startFails hst | receive hst | idle hst | exit hst | listen hst | modeByte hst | invalid hst
  | timeout hst | moduleByte hst | building hst | built hst | poll hst | heard hst | pollTimeout hst | store hst | frame hst
  | stuck hst => simp [hst, isTransmit] at hbusy

/-- The TRANSMIT states are left when nothing is left to drain (R106). -/
theorem Move.drained_at_top (move : Move i s t) (hbusy : isTransmit s.st = true) (hend : t.st = .top) :
    t.drainRem = 0 ∨ t.rxQueue = [] := by
  cases move with
  | drained _ h => exact h
  | hold hst =>
    obtain h | h | h := (awaitsByte_iff s.st).mp hst <;> simp [h, isTransmit] at hbusy
  | _ => simp_all [isTransmit]

/-- What has become of the RX queue of `s` after `c` cycles of a TRANSMIT of `n` bytes. -/
structure DrainAccount (s : State) (n c : Nat) (u : State) (popped given sent : List Byte) : Prop where
  inputs : u.inputs = s.inputs.drop c
  model : KeepsModel s u
  len : u.len = n
  stream : u.txStream = s.txStream ++ sent
  queue : s.rxQueue ++ given = popped ++ u.rxQueue
  count : popped.length + leftToDrain n u = n
  mixed : Mixed (lineBytes c s) (if s.echo then sent else []) given
  ended : u.st = .top → u.drainRem = 0 ∨ u.rxQueue = []

/-- What the line gives in one more cycle. -/
theorem lineBytes_succ_of_drop {u : State} {c : Nat} (hinputs : u.inputs = s.inputs.drop c) (hheld : u.held = s.held) :
    lineBytes (c + 1) s = lineBytes c s ++ u.thisInput.rx := by
  rw [lineBytes, lineBytes, portValues_add, List.flatMap_append, State.thisInput, hinputs, hheld]
  simp [portValues_succ]

theorem DrainAccount.clock {u v : State} {c : Nat} {popped given sent : List Byte}
    (account : DrainAccount s n c u popped given sent) (noReset : NoReset u) (hbusy : isTransmit u.st = true)
    (hlen : v.len = n) (hclock : Machine.clock u = .ok v) :
    ∃ popped' given' sent', DrainAccount s n (c + 1) v popped' given' sent' := by
  have move : Move u.thisInput (beginCycle u.thisInput u) v := (clockOn_ok_iff noReset.thisInput).mp hclock
  have inputs : v.inputs = s.inputs.drop (c + 1) := by
    rw [clockOn_inputs hclock]
    exact drop_succ_of_tail account.inputs
  have model := account.model.trans (clockOn_keepsModel hclock)
  have line := lineBytes_succ_of_drop account.inputs account.model.held
  have ended := move.drained_at_top hbusy
  have queue : s.rxQueue ++ (given ++ u.thisInput.rx) = popped ++ (beginCycle u.thisInput u).rxQueue := by
    rw [← List.append_assoc, account.queue, List.append_assoc]
    rfl
  have count : popped.length + leftToDrain n (beginCycle u.thisInput u) = n := account.count
  have mixed := account.mixed.append u.thisInput.rx
  rw [← line] at mixed
  obtain ⟨b, hq, hstream, hleft⟩ | ⟨new, hstream, hq, hleft⟩ := move.drains_or_echoes hbusy account.len
  · refine ⟨popped ++ [b], given ++ u.thisInput.rx, sent, inputs, model, hlen, hstream.trans account.stream, ?_, ?_,
      ?_, ended⟩
    · rw [queue, hq, List.append_assoc, List.singleton_append]
    · rw [List.length_append, List.length_singleton]
      omega
    · simpa using mixed []
  · refine ⟨popped, given ++ (u.thisInput.rx ++ if s.echo then new else []), sent ++ new, inputs, model, hlen, ?_, ?_, ?_,
      ?_, ended⟩
    · rw [hstream, beginCycle_txStream, account.stream, List.append_assoc]
    · rw [← List.append_assoc, ← List.append_assoc, List.append_assoc s.rxQueue, queue, hq, List.append_assoc,
        beginCycle_echo, account.model.echo]
    · rw [hleft, count]
    · have more := mixed (if s.echo then new else [])
      cases hs : s.echo <;> simpa [hs] using more

end

/-- Settles O47: the account is kept by every cycle from the invoking one on, and the queue of a frame whose echo is complete is
not exhausted early. -/
theorem transmitDrainsAtMostLength : Obligations.TransmitDrainsAtMostLength := by
  unfold Obligations.TransmitDrainsAtMostLength
  intro s n hst noReset ready inside hlen hn hfits
  have sending := beginTransmit_sending n (invoked s)
  have start : DrainAccount s n 1 (beginTransmit n (invoked s)) [] s.thisInput.rx [] :=
    { inputs := List.drop_one.symm
      model := ⟨rfl, rfl, rfl, rfl, rfl, rfl⟩
      len := rfl
      stream := (List.append_nil _).symm
      queue := rfl
      count := Nat.zero_add n
      mixed := by
        rw [ite_self, lineBytes_succ_of_drop (u := s) (c := 0) rfl rfl]
        exact ⟨List.Sublist.refl _, List.nil_sublist _, by simp⟩
      ended := nofun }
  obtain ⟨k, t, run, hend, frame, ended, popped, given, sent, account⟩ :=
    sending.run (P := fun c u => ∃ popped given sent, DrainAccount s n c u popped given sent) hn hfits
      (invoked_noReset noReset n) ready ⟨_, _, _, start⟩ fun c u v ⟨_, _, _, account⟩ sending noReset hbusy hclock =>
        account.clock noReset hbusy sending.len hclock
  rw [Nat.add_comm] at account
  have answers := exec_transmit_of_run hst noReset inside hlen hfits run (by rw [hend]; rfl)
  have clocked : (clockOn { s.thisInput with bldDone := true, bldLen := n } s).bind (clocks k) = .ok t := by
    rw [clockOn_bldDone hst noReset inside (lenPort_of_le hfits) hfits]
    exact run.clocks
  have written : t.txStream.drop s.txStream.length = sent := by rw [account.stream, List.drop_left]
  have length : sent.length = n := by
    rw [← written, frame.stream]
    simp [invoked, respFrame, State.txFrame]
    omega
  have count : popped.length + t.drainRem = n := by simpa [leftToDrain, hend] using account.count
  have ended := account.ended hend
  have mixed := account.mixed
  refine ⟨t, k, popped, given, answers, account.inputs, clocked, account.queue, count, ended, fun hecho => ?off,
    fun hecho => ?on⟩
  case off =>
    rw [hecho] at mixed
    exact mixed.eq_line
  case on =>
    rw [hecho, if_pos rfl] at mixed
    rw [written]
    refine ⟨ended.elim id fun hempty => ?_, mixed.line_sublist, mixed.echoed_sublist, mixed.perm⟩
    have popped_all := congrArg List.length account.queue
    have given_length := mixed.perm.length_eq
    simp only [hempty, List.length_append, List.length_nil] at popped_all given_length
    omega

end Sys2Proof.Machine
end

section
/-! PROOFS of the timing of TRANSMIT (R102, R107, R108): its runs with a ready transport, cycle by cycle. -/

namespace Sys2Proof.Machine

section
variable {s u : State} {busy : St → Bool}

/-- The settling delay, whatever the line gives in it (R102). -/
theorem run_settling (hst : s.st = .txSettle) (hbusy : busy .txSettle = true) (noReset : NoReset s) :
    ∃ u o, Run busy s.timer s u ∧ u = s.waited 0 (s.inputs.drop s.timer) (heardBy s.timer s) o := by
  obtain ⟨o, run⟩ := run_ticks (busy := busy) (by simp [hst, countsDown]) (hst ▸ hbusy) noReset le_rfl
    (by simp [hst, listens])
  rw [Nat.sub_self] at run
  exact ⟨_, o, run, rfl⟩

/-- An empty frame: the settling delay and a drain of nothing (R108). -/
theorem run_empty_frame (hst : s.st = .txSettle) (hlen : s.len = 0) (noReset : NoReset s) :
    ∃ t o, Run isTransmit (s.timer + 2) s t ∧ t = ({ s with idx := 0, csum := 0x00, drainRem := 0, st := .top } : State).waited 0
      (s.inputs.drop (s.timer + 2)) (heardBy (s.timer + 2) s) o := by
  obtain ⟨u, o, settle, hu⟩ := run_settling (busy := isTransmit) hst rfl noReset
  have heard : ∀ n, heardBy (s.timer + n) s = [] ++ heardBy n u :=
    heardBy_after (by rw [hu]; rfl) (by rw [hu]; rfl) (by rw [hu]; rfl)
  have settled : clock u = .ok { beginCycle u.thisInput u with idx := 0, csum := 0x00, drainRem := 0, st := .txDrain } :=
    clock_of_move (settle.allInputs noReset)
      (.settledEmpty (by rw [hu]; exact hst) (by rw [hu]; rfl) (by rw [hu]; exact hlen))
  have toDrain := settle.trans (.one (by rw [hu]; exact hst ▸ rfl) settled)
  obtain ⟨v, hv⟩ : ∃ v, v = ({ beginCycle u.thisInput u with idx := 0, csum := 0x00, drainRem := 0, st := .txDrain } : State) :=
    ⟨_, rfl⟩
  rw [← hv] at toDrain
  have drained : clock v = .ok { beginCycle v.thisInput v with st := .top } :=
    clock_of_move (toDrain.allInputs noReset) (.drained (by rw [hv]; rfl) (.inl (by rw [hv]; rfl)))
  have queue : (beginCycle v.thisInput v).rxQueue = heardBy (s.timer + 2) s := by
    rw [heard, List.nil_append, ← heardBy_succ (s := u) (t := v) (by rw [hv]; rfl) (by rw [hv]; rfl) (by rw [hv]; rfl) 1,
      heardBy_one]
    rfl
  have taken : (beginCycle v.thisInput v).inputs = s.inputs.drop (s.timer + 2) :=
    drop_succ_of_tail toDrain.inputs
  refine ⟨_, (beginCycle v.thisInput v).outs, toDrain.trans (.one (by rw [hv]; rfl) drained), ?_⟩
  rw [← queue, ← taken, hv, hu]
  rfl

/-- Settles O48: the invoking cycle and the run of an empty frame. -/
theorem transmitOfNothing : Obligations.TransmitOfNothing := by
  unfold Obligations.TransmitOfNothing
  intro s hst noReset inside hlen
  obtain ⟨t, o, run, ht⟩ := run_empty_frame (s := beginTransmit 0 (invoked s)) rfl rfl (invoked_noReset noReset 0)
  have answers := exec_transmit_of_run hst noReset inside hlen (Nat.zero_le _) run (by rw [ht]; rfl)
  have clocked : (clockOn { s.thisInput with bldDone := true, bldLen := 0 } s).bind (clocks (s.cfg.cPostRecv + 2)) = .ok t := by
    rw [clockOn_bldDone hst noReset inside (lenPort_of_le (Nat.zero_le _)) (Nat.zero_le _)]
    exact run.clocks
  have queue : t.rxQueue = heardBy (s.cfg.cPostRecv + 3) s := by
    rw [ht, State.waited_rxQueue]
    exact heardBy_succ (by rfl) (by rfl) (by rfl) _
  have taken : t.inputs = s.inputs.drop (s.cfg.cPostRecv + 3) := by
    rw [ht, State.waited_inputs]
    exact List.drop_tail ..
  subst ht
  exact ⟨_, answers, rfl, rfl, queue, rfl, fun a => invoked_txAt s a, rfl, rfl, taken, clocked, ⟨rfl, rfl, rfl⟩,
    ⟨rfl, rfl, rfl, rfl⟩, ⟨rfl, rfl, rfl, fun _ => rfl⟩, ⟨rfl, rfl, rfl, rfl, rfl, rfl⟩⟩

/-! ## The bytes of a frame -/

/-- Byte `j` of the frame of `n` bytes begun in `s` is due (R107). -/
structure ByteDue (s : State) (n j : Nat) (u : State) : Prop where
  st : u.st = .txByte
  idx : u.idx = j
  len : u.len = n
  stream : u.txStream.length = s.txStream.length + j

/-- The first byte is due after the settling delay (R102, R103). -/
theorem run_to_first_byte {n : Nat} (noReset : NoReset s) (hn : 1 ≤ n) :
    ∃ u, Run isTransmit (s.cfg.cPostRecv + 1) (beginTransmit n s) u ∧ ByteDue s n 0 u := by
  obtain ⟨u, o, settle, hu⟩ := run_settling (s := beginTransmit n s) (busy := isTransmit) rfl rfl noReset
  have settled := clock_of_move (settle.allInputs noReset)
    (.settled (by rw [hu]; rfl) (by rw [hu]; rfl) (by rw [hu]; exact hn))
  refine ⟨_, settle.trans (.one (by rw [hu]; rfl) settled), ?_⟩
  subst hu
  exact ⟨rfl, rfl, rfl, rfl⟩

/-- The cycle of a byte that is due writes it (R104). -/
theorem ByteDue.written {n j : Nat} (due : ByteDue s n j u) (hcfg : u.cfg = s.cfg) (noReset : NoReset u)
    (ready : u.thisInput.txReady = true) (hfits : j < s.cfg.txCapacity) :
    ∃ v, clock u = .ok v ∧ v.txStream.length = s.txStream.length + j + 1 ∧ v.outs.txWrite = true := by
  have hidx : u.idx < u.cfg.txCapacity := by rw [due.idx, hcfg]; exact hfits
  have moves : ∃ v, Move u.thisInput (beginCycle u.thisInput u) v := by
    by_cases hlast : u.idx + 1 = u.len
    · exact ⟨_, .sendChecksum due.st ready hlast hidx⟩
    · exact ⟨_, .sendByte due.st ready hlast hidx⟩
  obtain ⟨v, move⟩ := moves
  obtain ⟨x, -, stream, wire, -⟩ := move.sends due.st ready
  exact ⟨v, clock_of_move noReset move, by simp [stream, due.stream], wire⟩

/-- The next byte of a frame is due `C_INTERBYTE + 2` cycles later (R107). -/
theorem ByteDue.next {n j : Nat} (due : ByteDue s n j u) (hcfg : u.cfg = s.cfg) (noReset : NoReset u)
    (ready : u.thisInput.txReady = true) (hfits : j < s.cfg.txCapacity) (hlast : j + 1 ≠ n) :
    ∃ v, Run isTransmit (s.cfg.cInterbyte + 2) u v ∧ ByteDue s n (j + 1) v := by
  obtain ⟨rfl, rfl⟩ : j = u.idx ∧ n = u.len := ⟨due.idx.symm, due.len.symm⟩
  obtain ⟨w, hw⟩ : ∃ w, w = ({ txWrite (u.txAt u.idx) (beginCycle u.thisInput u) with
    csum := u.csum + u.txAt u.idx, timer := u.cfg.cInterbyte, st := .txGap } : State) := ⟨_, rfl⟩
  have sends : clock u = .ok w := hw ▸ clock_of_move noReset (.sendByte due.st ready hlast (hcfg ▸ hfits))
  have first : Run isTransmit 1 u w := .one (by rw [due.st]; rfl) sends
  obtain ⟨o, gap⟩ := run_ticks (s := w) (busy := isTransmit) (by rw [hw]; rfl) (by rw [hw]; rfl) (first.allInputs noReset)
    le_rfl (by rw [hw]; nofun)
  obtain ⟨v, hv⟩ : ∃ v, v = w.waited 0 (w.inputs.drop w.timer) (heardBy w.timer w) o := ⟨_, rfl⟩
  rw [Nat.sub_self, ← hv] at gap
  have before := first.trans gap
  have ended := clock_of_move (before.allInputs noReset)
    (.nextByte (by rw [hv, hw]; rfl) (by rw [hv]; rfl) (by rw [hv, hw]; exact hlast))
  have run := before.trans (.one (by rw [hv, hw]; rfl) ended)
  have cycles : 1 + w.timer + 1 = s.cfg.cInterbyte + 2 := by
    rw [hw, ← hcfg, Nat.add_right_comm]
    exact Nat.add_comm 2 _
  refine ⟨_, cycles ▸ run, ?_⟩
  subst hv hw
  exact ⟨rfl, rfl, rfl, by simp [due.stream, Nat.add_assoc]⟩

/-- Every byte of a frame is due in its time (R107). -/
theorem run_to_byte {n : Nat} (noReset : NoReset s) (ready : ReadyTransport s) (hn : 1 ≤ n) (hfits : n ≤ s.cfg.txCapacity)
    {j : Nat} (hj : j < n) :
    ∃ u, Run isTransmit (s.cfg.cPostRecv + 1 + j * (s.cfg.cInterbyte + 2)) (beginTransmit n s) u ∧ ByteDue s n j u := by
  induction j with
  | zero => simpa using run_to_first_byte noReset hn
  | succ j ih =>
    obtain ⟨u, run, due⟩ := ih (by omega)
    obtain ⟨v, more, due'⟩ := due.next run.keepsModel.cfg (run.allInputs noReset)
      (allInputs_thisInput (run.allInputs (p := fun i => i.txReady = true) ready)) (by omega) (by omega)
    rw [Nat.succ_mul, ← Nat.add_assoc]
    exact ⟨v, run.trans more, due'⟩

/-- Settles O50: the byte is due then, and the cycle it is due in writes it. -/
theorem byteTimesOfAFrame : Obligations.ByteTimesOfAFrame := by
  unfold Obligations.ByteTimesOfAFrame
  intro s n j noReset ready hn hfits hj
  obtain ⟨u, run, due⟩ := run_to_byte noReset ready hn hfits hj
  obtain ⟨v, hclock, stream, wire⟩ := due.written run.keepsModel.cfg (run.allInputs noReset)
    (allInputs_thisInput (run.allInputs (p := fun i => i.txReady = true) ready)) (by omega)
  exact ⟨u, v, run.clocks, hclock, due.st, due.stream, stream, wire⟩

end
end Sys2Proof.Machine
end

section
/-! PROOFS of an answered request (R115, R125 to R129, R133): the builder's cycles and the frame behind them. -/

namespace Sys2Proof.Machine

/-! ## What the builder leaves in `txbuf` -/

/-- A byte the builder does not write is what the buffer held; one it writes does not depend on the buffer (R38). -/
theorem applyWrites_read (m : Memory) (answers : List CycleIn) (a : Nat) :
    (applyWrites m answers).read? a = ((applyWrites [] answers).read? a).or (m.read? a) := by
  induction answers using List.reverseRecOn with
  | nil => simp [Memory.read?]
  | append_singleton front last ih =>
    simp only [applyWrites_append, applyWrites_cons, applyWrites_nil]
    split
    next =>
      by_cases ha : a = last.bldAddr
      · rw [ha, read_write_same, read_write_same, Option.some_or]
      · rw [read_write_ne _ _ ha, read_write_ne _ _ ha, ih]
    next => exact ih

/-- An index the builder writes is written (R160). -/
theorem applyWrites_written {answers : List CycleIn} {a : Nat}
    (h : ∃ i ∈ answers, i.bldWe = true ∧ i.bldAddr = a) (m : Memory) : ∃ b, (applyWrites m answers).read? a = some b := by
  obtain ⟨i, hi, hwe, rfl⟩ := h
  obtain ⟨front, back, rfl⟩ := List.append_of_mem hi
  rw [applyWrites_append, applyWrites_cons, if_pos hwe, applyWrites_read, read_write_same]
  cases (applyWrites [] back).read? i.bldAddr with
  | none => exact ⟨_, rfl⟩
  | some b => exact ⟨b, rfl⟩

/-- The payload in `txbuf` is the one the builder has given (R58, R160). -/
theorem BuilderDuty.txFrame_eq {capacity n : Nat} {answers : List CycleIn} (duty : BuilderDuty capacity n answers)
    {s : State} {m : Memory} (hbuf : s.txbuf = applyWrites m answers) : s.txFrame (n - 1) = payloadOf n answers := by
  refine List.map_congr_left fun a ha => ?_
  obtain ⟨b, hb⟩ := applyWrites_written (duty.complete a (by have := List.mem_range.mp ha; omega)) []
  rw [State.txAt, hbuf, applyWrites_read, hb]
  rfl

/-! ## The builder's cycles -/

section
variable {u : State} {busy : St → Bool} {i : CycleIn}

/-- Inside `txbuf` an address is the one on the port (R63). -/
theorem builtBuf_eq_applyWrites (inside : i.bldWe = true → i.bldAddr < u.cfg.txCapacity) :
    builtBuf i u = applyWrites u.txbuf [i] := by
  rw [applyWrites_cons, applyWrites_nil, builtBuf]
  split
  next hwe => rw [bldAddrOf, lenPort_of_le (inside hwe).le]
  next => rfl

theorem writesInside_of_lt (inside : i.bldWe = true → i.bldAddr < u.cfg.txCapacity) : WritesInside i u := fun hwe => by
  rw [bldAddrOf, lenPort_of_le (inside hwe).le]
  exact inside hwe

theorem thisInput_of_cons {listed : List CycleIn} (h : u.inputs = i :: listed) : u.thisInput = i := by
  rw [State.thisInput, h]
  rfl

/-- The cycles in which the builder writes and is not done (R127). -/
theorem run_writes (hst : u.st = .build) (hbusy : busy .build = true) (noReset : NoReset u) {front rest : List CycleIn}
    (hinputs : u.inputs = front ++ rest) (inside : ∀ i ∈ front, i.bldWe = true → i.bldAddr < u.cfg.txCapacity)
    (hdone : ∀ i ∈ front, i.bldDone = false) :
    ∃ queue o, Run busy front.length u
      (({ u with txbuf := applyWrites u.txbuf front } : State).waited u.timer rest queue o) := by
  induction front generalizing u with
  | nil => exact ⟨u.rxQueue, u.outs, by rw [← List.nil_append rest, ← hinputs]; exact .refl u⟩
  | cons i front ih =>
    have here : i.bldWe = true → i.bldAddr < u.cfg.txCapacity := inside i List.mem_cons_self
    have this : u.thisInput = i := thisInput_of_cons hinputs
    obtain ⟨v, hv⟩ : ∃ v, v = ({ beginCycle i u with txbuf := applyWrites u.txbuf [i] } : State) := ⟨_, rfl⟩
    have first : clock u = .ok v := by
      refine clock_of_move noReset ?_
      rw [this, hv, ← builtBuf_eq_applyWrites here]
      exact .building hst (writesInside_of_lt here) (hdone i List.mem_cons_self)
    obtain ⟨queue, o, run⟩ := ih (u := v) (by rw [hv]; exact hst) (allInputs_clockOn noReset first)
      (by rw [hv, beginCycle_inputs, hinputs]; rfl) (fun j hj => hv ▸ inside j (List.mem_cons_of_mem _ hj))
      fun j hj => hdone j (List.mem_cons_of_mem _ hj)
    refine ⟨queue, o, .step (hst ▸ hbusy) first ?_⟩
    rw [hv] at run
    rw [hv]
    exact run

/-- The builder does its duty and TRANSMIT begins with what it left in `txbuf` (R127, R160). -/
theorem run_build {n : Nat} {answers later : List CycleIn} (hst : u.st = .build) (hbusy : busy .build = true)
    (noReset : NoReset u) (hinputs : u.inputs = answers ++ later) (duty : BuilderDuty u.cfg.txCapacity n answers)
    (hfits : n ≤ u.cfg.txCapacity) :
    ∃ b queue o, Run busy answers.length u (beginTransmit n b) ∧
      b = ({ u with txbuf := applyWrites u.txbuf answers } : State).waited u.timer later queue o := by
  obtain ⟨front, last, rfl, hlast, hlen, hfront⟩ := duty.done
  have inside : ∀ i ∈ front ++ [last], i.bldWe = true → i.bldAddr < u.cfg.txCapacity := duty.inside
  rw [List.append_assoc] at hinputs
  obtain ⟨queue, o, run⟩ := run_writes hst hbusy noReset hinputs
    (fun i hi => inside i (List.mem_append_left _ hi)) hfront
  obtain ⟨v, hv⟩ : ∃ v, v = ({ u with txbuf := applyWrites u.txbuf front } : State).waited u.timer ([last] ++ later) queue o :=
    ⟨_, rfl⟩
  rw [← hv] at run
  have here : last.bldWe = true → last.bldAddr < v.cfg.txCapacity := by rw [hv]; exact inside last (by simp)
  have this : v.thisInput = last := thisInput_of_cons (by rw [hv]; rfl)
  have length : bldLenOf last v = n := by rw [bldLenOf, hlen, hv]; exact lenPort_of_le hfits
  have buffer : builtBuf last v = applyWrites u.txbuf (front ++ [last]) := by
    rw [builtBuf_eq_applyWrites here, applyWrites_append, hv]
    rfl
  have begins : clock v = .ok (beginTransmit n { beginCycle last v with txbuf := builtBuf last v }) := by
    refine clock_of_move (run.allInputs noReset) ?_
    rw [this, ← length]
    exact .built (by rw [hv]; exact hst) (writesInside_of_lt here) hlast (by rw [hv] at length ⊢; exact length.trans_le hfits)
  refine ⟨{ beginCycle last v with txbuf := builtBuf last v }, v.rxQueue ++ last.rx, (beginCycle last v).outs, ?_, ?_⟩
  · rw [List.length_append]
    exact run.trans (.one (by rw [hv]; exact hst ▸ hbusy) begins)
  · rw [buffer, hv]
    rfl

end

/-! ## The answer -/

/-- What answering a request with a frame of `n` bytes has done since `BUILD` was entered in `u` (R133). -/
structure Answered (n : Nat) (answers : List CycleIn) (u t : State) : Prop where
  st : t.st = .top
  stream : t.txStream = u.txStream ++ respFrame (payloadOf n answers)
  length : (payloadOf n answers).length + 1 = n
  frame : t.txFrame n = respFrame (payloadOf n answers)
  above : ∀ a, n ≤ a → t.txAt a = builtAt u answers a
  events : t.events = u.events
  len : t.len = n
  flags : KeepsFaultFlags u t
  loop : KeepsLoop u t
  receive : KeepsReceive u t
  model : KeepsModel u t

section
variable {u t : State} {busy : St → Bool} {n : Nat} {answers later : List CycleIn}

/-- From `BUILD` the builder's frame is sent, and `TOP` reached (R133). -/
theorem run_answer (hst : u.st = .build) (hbusy : ∀ st, isServing st = true → busy st = true) (noReset : NoReset u)
    (ready : u.held.txReady = true) (hinputs : u.inputs = answers ++ later)
    (duty : BuilderDuty u.cfg.txCapacity n answers) (hn : 1 ≤ n) (hfits : n ≤ u.cfg.txCapacity) :
    ∃ k t, Run busy k u t ∧ Answered n answers u t := by
  obtain ⟨b, queue, o, build, hb⟩ := run_build (busy := busy) hst (hbusy .build rfl) noReset hinputs duty hfits
  have ready' : (beginTransmit n b).held.txReady = true := build.keepsModel.held ▸ ready
  obtain ⟨k, t, send, hend, sent, ended⟩ := (beginTransmit_sending n b).run_to_top hn
    (by rw [hb]; exact hfits) (build.allInputs noReset) ready'
  have payload : b.txFrame (n - 1) = payloadOf n answers := duty.txFrame_eq (m := u.txbuf) (by rw [hb]; rfl)
  have stream := sent.stream
  have frame := sent.txFrame_eq
  rw [payload] at stream frame
  refine ⟨_, t, build.trans (send.mono fun st h => hbusy st (by simp [isServing, h])), ?_⟩
  subst hb
  exact
    { st := hend
      stream := stream
      length := by simp only [payloadOf, List.length_map, List.length_range]; omega
      frame := frame
      above := fun a ha => sent.others a (by omega)
      events := ended.events
      len := ended.len
      flags := { ended.flags with }
      loop := { ended.loop with }
      receive := { ended.receive with }
      model := { ended.model with } }

end

/-! ## The request classes -/

section
variable {s t : State} {m : Byte} {n : Nat} {answers later : List CycleIn}

/-- What a reconnect and an answer have done together (R125, R126, R133). -/
structure Polled (m : Byte) (n : Nat) (answers : List CycleIn) (s t : State) : Prop where
  st : t.st = .top
  stream : t.txStream = s.txStream ++ respFrame (payloadOf n answers)
  length : (payloadOf n answers).length + 1 = n
  frame : t.txFrame n = respFrame (payloadOf n answers)
  above : ∀ a, n ≤ a → t.txAt a = builtAt s answers a
  lastResult : t.lastResult = .moduleId
  lastModule : t.lastModule = m
  modId : t.modId = m
  sync : t.sync = .connected
  events : t.events = s.events ++ regainEvents s
  len : t.len = n
  flags : KeepsFaultFlags s t
  receive : KeepsReceive s t
  model : KeepsModel s t

/-- The answer begins where the reconnect has led, whatever the line did meanwhile. -/
theorem Answered.polled {st : St} {timer : Nat} {inputs : List CycleIn} {queue : List Byte} {o : CycleOut}
    (h : Answered n answers (({ reconnect m s with st := st } : State).waited timer inputs queue o) t) :
    Polled m n answers s t := by
  have keeps := (reconnect_keepsOutsideLoop m s).trans (waited_keepsOutsideLoop (reconnect m s) st timer inputs queue o)
  have built : builtAt (({ reconnect m s with st := st } : State).waited timer inputs queue o) answers = builtAt s answers := by
    funext a
    simp [builtAt]
  exact
    { st := h.st
      stream := h.stream.trans (by rw [keeps.transmit.txStream])
      length := h.length
      frame := h.frame
      above := fun a ha => built ▸ h.above a ha
      lastResult := h.loop.lastResult.trans (reconnect_lastResult m s)
      lastModule := h.loop.lastModule.trans (reconnect_lastModule m s)
      modId := h.loop.modId.trans (reconnect_modId m s)
      sync := h.loop.sync.trans (reconnect_sync m s)
      events := h.events.trans (reconnect_events m s)
      len := h.len
      flags := keeps.flags.trans h.flags
      receive := keeps.receive.trans h.receive
      model := keeps.model.trans h.model }

/-- A supported module's frame fits `txbuf` and is not empty (R9). -/
theorem frame_bounds {c : Config} (hc : c.ok = true) (hn : n = c.lenEam ∨ n = c.lenGps) : 1 ≤ n ∧ n ≤ c.txCapacity := by
  simp only [Config.ok, Bool.and_eq_true, decide_eq_true_eq] at hc
  omega

/-- The bound of an operation covers the cycles left in `BUILD`, whatever the counters say: none is read there before it is
loaded. -/
theorem cyclesLeft_build_le (hst : s.st = .build) : cyclesLeft s ≤ operationBound s.cfg := by
  have unread : cyclesLeft s = cyclesLeft { s with timer := 0 } := by simp [cyclesLeft, hst]
  rw [unread]
  exact cyclesLeft_le_operationBound (s := { s with timer := 0 }) (Nat.zero_le _) (by simp [hst, isTransmit]) (by simp [hst])

/-- A decoded request for a supported module is served (R128, R129). -/
theorem serve_answers (hc : s.cfg.ok = true) (hn : n = s.cfg.lenEam ∨ n = s.cfg.lenGps) (noReset : NoReset s)
    (ready : s.held.txReady = true) (hinputs : s.inputs = answers ++ later)
    (duty : BuilderDuty s.cfg.txCapacity n answers) (m : Byte) :
    ∃ t, serve { reconnect m s with st := .build } = .ok t ∧ Polled m n answers s t := by
  obtain ⟨hpos, hfits⟩ := frame_bounds hc hn
  obtain ⟨u, hu⟩ : ∃ u, u = ({ reconnect m s with st := .build } : State) := ⟨_, rfl⟩
  have cfg : u.cfg = s.cfg := by rw [hu]; exact reconnect_cfg m s
  have held : u.held = s.held := by rw [hu]; exact reconnect_held m s
  have inputs : u.inputs = s.inputs := by rw [hu]; exact reconnect_inputs m s
  obtain ⟨k, t, run, answered⟩ := run_answer (u := u) (busy := isServing) (by rw [hu]) (fun _ => id)
    (allInputs_drop noReset (k := 0) held inputs) (held ▸ ready) (inputs.trans hinputs) (cfg ▸ duty) hpos (cfg ▸ hfits)
  have enough : Enough (operationFuel u) u :=
    enough_operationFuel rfl le_rfl (cyclesLeft_build_le (by rw [hu]))
  refine ⟨t, ?_, ?_⟩
  · rw [← hu, serve]
    exact run.runWhile_eq active_of_isServing enough (by rw [answered.st]; rfl)
  · rw [hu] at answered
    exact answered.polled (st := .build) (timer := (reconnect m s).timer) (inputs := (reconnect m s).inputs)
      (queue := (reconnect m s).rxQueue) (o := (reconnect m s).outs)

end

/-- Settles O54: the request is accepted and served. -/
theorem reqEamSendsOneFrame : Obligations.ReqEamSendsOneFrame := by
  unfold Obligations.ReqEamSendsOneFrame
  intro s n answers later hc hst hn noReset ready hinputs duty
  obtain ⟨t, served, polled⟩ := serve_answers hc (.inl hn) noReset ready hinputs duty s.cfg.eamId
  refine ⟨t, answer_next.mpr ?_, polled.st, polled.stream, polled.length, polled.frame, polled.above, polled.lastResult,
    polled.lastModule, polled.modId, polled.sync, polled.events, polled.len, polled.flags, polled.receive, polled.model⟩
  rw [if_pos hst]
  exact served

/-- Settles O55: the request is accepted and served. -/
theorem reqGpsSendsOneFrame : Obligations.ReqGpsSendsOneFrame := by
  unfold Obligations.ReqGpsSendsOneFrame
  intro s n answers later hc hst hn noReset ready hinputs duty
  obtain ⟨t, served, polled⟩ := serve_answers hc (.inr hn) noReset ready hinputs duty s.cfg.gpsId
  refine ⟨t, answer_next.mpr ?_, polled.st, polled.stream, polled.length, polled.frame, polled.above, polled.lastResult,
    polled.lastModule, polled.modId, polled.sync, polled.events, polled.len, polled.flags, polled.receive, polled.model⟩
  rw [if_pos hst]
  exact served

/-! ## The iteration -/

section
variable {s t : State} {m : Byte} {n j k : Nat} {rest : List Byte} {answers later : List CycleIn}

/-- A request heard after this cycle is heard from the next one on. -/
theorem RequestHeard.next {u : State} (heard : RequestHeard s 1 j k m rest) (hcfg : u.cfg = s.cfg)
    (shift : ∀ d, heardBy d u = heardBy (d + 1) s) : RequestHeard u 0 j k m rest := by
  obtain ⟨window, silence, first, later, waited, whole⟩ := heard
  have shift' : ∀ d, heardBy (0 + d) u = heardBy (1 + d) s := fun d => by rw [Nat.zero_add, shift, Nat.add_comm]
  have shift'' : ∀ d, heardBy (0 + d + 1) u = heardBy (1 + d + 1) s := fun d => by rw [Nat.zero_add, shift, Nat.add_comm 1 d]
  constructor <;> simpa only [shift', shift'', hcfg]

/-- The cycle of `TOP` and AWAIT's first are no part of a poll's frame. -/
theorem Polled.of_listen {i : CycleIn} (h : Polled m n answers (beginAwait (beginCycle i s)) t) : Polled m n answers s t :=
  have keeps := (beginCycle_keepsOutsideLoop i s).trans (beginAwait_keepsOutsideLoop _)
  { h with
    flags := keeps.flags.trans h.flags
    receive := keeps.receive.trans h.receive
    model := keeps.model.trans h.model }

/-- A request for a supported module leads to `BUILD` (R126). -/
theorem afterModule_supported {c : Config} (hm : m = c.eamId ∨ m = c.gpsId) : afterModule c m = .build := if_pos hm

/-- From AWAIT's first cycle on a request is read and answered (R115). -/
theorem run_poll_answered {u : State} (hst : u.st = .reqWait) (hc : u.cfg.ok = true)
    (hn : n = u.cfg.lenEam ∨ n = u.cfg.lenGps) (hm : m = u.cfg.eamId ∨ m = u.cfg.gpsId) (noReset : NoReset u)
    (ready : u.held.txReady = true) (htimer : u.timer = u.cfg.cTimeout) (heard : RequestHeard u 0 j k m rest)
    (hinputs : u.inputs.drop (k + 1) = answers ++ later) (duty : BuilderDuty u.cfg.txCapacity n answers) :
    ∃ c t, Run inIteration c u t ∧ Polled m n answers u t := by
  obtain ⟨hpos, hfits⟩ := frame_bounds hc hn
  obtain ⟨o, await⟩ := run_await_request (busy := inIteration) hst (fun st h => by simp [inIteration, h]) noReset htimer heard
  rw [afterModule_supported hm, hinputs] at await
  obtain ⟨v, hv⟩ : ∃ v, v = ({ reconnect m u with st := .build } : State).waited (u.cfg.cTimeout - j) (answers ++ later) rest o :=
    ⟨_, rfl⟩
  rw [← hv] at await
  have model := await.keepsModel
  obtain ⟨c, t, serve, answered⟩ := run_answer (busy := inIteration) (by rw [hv]; rfl) (fun st h => by simp [inIteration, h])
    (await.allInputs noReset) (model.held ▸ ready) (by rw [hv]; rfl) (model.cfg ▸ duty) hpos (model.cfg ▸ hfits)
  exact ⟨_, t, await.trans serve, (hv ▸ answered).polled⟩

end

/-- Settles O53: the `TOP` cycle, and the poll behind it read and answered. -/
theorem iterateAnswersPoll : Obligations.IterateAnswersPoll := by
  unfold Obligations.IterateAnswersPoll
  intro s m n j k rest waits answers later hc hst hmodule noReset ready hdown heard hinputs hwaits duty
  have first := clock_listen hst noReset hdown
  have behind : s.inputs.tail.drop (k + 1) = answers ++ later := by
    rw [List.drop_tail, hinputs, ← hwaits, List.drop_left]
  have heard' : RequestHeard (beginAwait (beginCycle s.thisInput s)) 0 j k m rest :=
    heard.next rfl (heardBy_succ (by rfl) (by rfl) (by rfl))
  obtain ⟨c, t, run, polled⟩ := run_poll_answered (u := beginAwait (beginCycle s.thisInput s)) rfl hc
    (hmodule.imp And.right And.right) (hmodule.imp And.left And.left) (allInputs_clockOn noReset first) ready rfl heard'
    behind duty
  have answers := exec_iterate_of_run first run (enough_beginAwait_beginCycle s _) (by rw [polled.st]; rfl)
  have polled := polled.of_listen
  exact ⟨t, answers, polled.st, polled.stream, polled.length, polled.frame, polled.above, polled.lastResult,
    polled.lastModule, polled.modId, polled.sync, polled.events, polled.len, polled.flags, polled.receive, polled.model⟩

end Sys2Proof.Machine
end
